-- ==== Sys2Proof/Word.lean ====
section
/-! DEFINITION. The widths of the spec's values (R8): an octet is 8 bits, a data value 16, a word 32, a host
register address 11. -/

namespace Sys2Proof

/-- An octet (R8). -/
abbrev Byte := BitVec 8

/-- A data value: 16 bits, unsigned (R8). -/
abbrev Data := BitVec 16

/-- A host register word: 32 bits (R8, R92). -/
abbrev Word := BitVec 32

/-- A host register byte address: `bus_addr` (R36, R179). -/
abbrev Addr := BitVec 11

end Sys2Proof
end

