-- ==== Sys2Proof/Syntax.lean ====
section
/-! DEFINITION. The operations of the host command word (R115, opcode_table.json), one constructor a row, and the
assembler's lines (R130, R131).

An operation carries the fields it uses and no other: the fields it does not use are ignored, whatever their value
(R112). The session operand is not in the word (R111); State holds it while the command is launched. -/

namespace Sys2Proof

/-- The host operations of R115, in the table's order. -/
inductive Instr where
  /-- OPEN, 0x01 (R172). -/
  | openSession
  /-- CLOSE, 0x02 (R174). -/
  | closeSession
  /-- SEND cmd data, 0x03 (R225). -/
  | send (cmd : Byte) (data : Data)
  /-- ENCODE cmd data, 0x04 (R148). -/
  | encode (cmd : Byte) (data : Data)
  /-- DECODE, 0x05 (R149). -/
  | decode
  /-- WRSP data, 0x10 (R226). -/
  | wrsp (data : Data)
  /-- RDSP, 0x11 (R227). -/
  | rdsp
  /-- WRLU data, 0x12 (R228). -/
  | wrlu (data : Data)
  /-- RDLU, 0x13 (R229). -/
  | rdlu
  /-- WRLI data, 0x14 (R230). -/
  | wrli (data : Data)
  /-- RDLI, 0x15 (R231). -/
  | rdli
  /-- WRLP data, 0x16 (R232). -/
  | wrlp (data : Data)
  /-- RDLP, 0x17 (R233). -/
  | rdlp
  /-- WRMODE data, 0x18 (R234). -/
  | wrmode (data : Data)
  /-- RDMODE, 0x19 (R235). -/
  | rdmode
  /-- RFON, 0x1A (R236). -/
  | rfon
  /-- RFOFF, 0x1B (R237). -/
  | rfoff
  /-- RDOPER, 0x1C (R238). -/
  | rdoper
  /-- RSTERR, 0x1D (R239). -/
  | rsterr
  /-- RDSTAT, 0x1E (R240). -/
  | rdstat
  /-- RDAPWR, 0x20 (R241). -/
  | rdapwr
  /-- RDAVOL, 0x21 (R242). -/
  | rdavol
  /-- RDACUR, 0x22 (R243). -/
  | rdacur
  /-- RDAFRQ, 0x23 (R244). -/
  | rdafrq
  /-- GENTER, 0x30 (R281). -/
  | genter
  /-- GEXITN, 0x31 (R282). -/
  | gexitn
  /-- GEXITE, 0x32 (R283). -/
  | gexite
  /-- GEXITF, 0x33 (R284). -/
  | gexitf
  deriving DecidableEq, Repr

/-- The 18 logical wire operations of R124. -/
inductive WireName where
  | setpointW | setpointR
  | limitUdcW | limitUdcR
  | limitIdcW | limitIdcR
  | limitPdcW | limitPdcR
  | modeW | modeR
  | operationW | operationR
  | resetError
  | statusR
  | actPowerR | actVoltageR | actCurrentR | actFrequencyR
  deriving DecidableEq, Repr

/-- One line of assembler text, read apart (R130, R131): the mnemonic, the session it names and its immediates. -/
structure AsmLine where
  mnemonic : String
  session : Nat
  operands : List Nat
  deriving DecidableEq, Repr

end Sys2Proof
end

