-- ==== Sys2Proof/Config.lean ====
section
/-! DEFINITION. The implementation parameters of R6 and the fixed values of R7.

`Params` is one instance's parameters as plain data. Where R6 gives a default, `Config` takes it; where R6 says OPEN or
"no default", `Config` has an opaque constant, so no proof can depend on its value (log 6). NUM_SESSIONS and NUM_PORTS
are no fields of `Params`: they are the lengths of State's two lists (R32, log 5). -/

namespace Sys2Proof

/-- CHECKSUM_ALG of R6. -/
inductive ChecksumAlg where
  | sum8
  | xor8
  deriving DecidableEq, Repr, Inhabited

/-- OPCODE_MAP of R6 and R124: for each wire operation an octet, or none where it is unmapped. R125: the map need not
be injective. -/
structure OpcodeMap where
  setpointW : Option Byte
  setpointR : Option Byte
  limitUdcW : Option Byte
  limitUdcR : Option Byte
  limitIdcW : Option Byte
  limitIdcR : Option Byte
  limitPdcW : Option Byte
  limitPdcR : Option Byte
  modeW : Option Byte
  modeR : Option Byte
  operationW : Option Byte
  operationR : Option Byte
  resetError : Option Byte
  statusR : Option Byte
  actPowerR : Option Byte
  actVoltageR : Option Byte
  actCurrentR : Option Byte
  actFrequencyR : Option Byte
  deriving DecidableEq, Repr, Inhabited

/-- The parameters of one instance (R6), but for the two counts. -/
structure Params where
  /-- CHECKSUM_ALG: OPEN (D3). -/
  checksumAlg : ChecksumAlg
  /-- OPCODE_MAP: OPEN (D4). -/
  opcodeMap : OpcodeMap
  /-- OPMAP_ID: no default (D4). -/
  opmapId : Byte
  /-- RESET_ERROR_DATA: OPEN (D5). -/
  resetErrorData : Data
  /-- BAUD: default 9600 (D25). No rule of the model depends on it (R375). -/
  baud : Nat
  /-- CLK_HZ: no default, divisible by 1000 (D55). -/
  clkHz : Nat
  deriving DecidableEq, Repr

namespace Config

/-- NUM_SESSIONS, R6: default 2 (log 5). -/
def numSessions : Nat := 2

/-- NUM_PORTS, R6: default 2 (log 5). -/
def numPorts : Nat := 2

/-- CHECKSUM_ALG, OPEN (D3, log 6). -/
opaque checksumAlg : ChecksumAlg

/-- OPCODE_MAP, OPEN (D4, log 6). -/
opaque opcodeMap : OpcodeMap

/-- OPMAP_ID, no default (D4, log 6). -/
opaque opmapId : Byte

/-- RESET_ERROR_DATA, OPEN (D5, log 6). -/
opaque resetErrorData : Data

/-- One less than CLK_HZ in kHz, no default (D55, log 6). -/
opaque clkKiloHertzLessOne : Nat

/-- The parameters of the instance State.reset describes. CLK_HZ is a positive multiple of 1000 (R6). -/
def params : Params where
  checksumAlg := checksumAlg
  opcodeMap := opcodeMap
  opmapId := opmapId
  resetErrorData := resetErrorData
  baud := 9600
  clkHz := 1000 * (clkKiloHertzLessOne + 1)

end Config

/-- BLOCK_VERSION of R1 and R71. -/
def blockVersion : Byte := 0x01#8

end Sys2Proof
end

