-- ==== Sys2Proof/WellFormed.lean ====
section
/-! DEFINITION. Checks on what is written down outside the machine: an assembler line (R130, R131) and an instance's
parameters (R6).

An `Instr` needs no check: its fields have the widths of R110, so every term of the type is a command word's meaning. -/

namespace Sys2Proof

/-- What an operand of an assembler line must fit: CMD and the octets of LDCIN and SETCFG are 8 bits, DATA and the
timeouts 16, the port number of SETCFG 3 (R110, R130, R131, R41, R43). -/
inductive OperandKind where
  | octet
  | data
  | portNumber
  deriving DecidableEq, Repr

/-- The least number that does not fit the operand. -/
def OperandKind.bound : OperandKind → Nat
  | .octet => 256
  | .data => 65536
  | .portNumber => 8

/-- The operands each mnemonic takes (R130 for the operations of R115, R131 for the pseudo-instructions); none for a
text that is no mnemonic. -/
def operandKinds (m : String) : Option (List OperandKind) :=
  if m ∈ ["SEND", "ENCODE"] then some [.octet, .data]
  else if m ∈ ["WRSP", "WRLU", "WRLI", "WRLP", "WRMODE"] then some [.data]
  else if m ∈ ["OPEN", "CLOSE", "DECODE", "RDSP", "RDLU", "RDLI", "RDLP", "RDMODE", "RFON", "RFOFF", "RDOPER",
      "RSTERR", "RDSTAT", "RDAPWR", "RDAVOL", "RDACUR", "RDAFRQ", "GENTER", "GEXITN", "GEXITE", "GEXITF"] then some []
  else if m ∈ ["WAIT", "ACK", "CHECK"] then some []
  else if m = "SETCFG" then some [.octet, .portNumber]
  else if m = "SETTMO" then some [.data, .data]
  else if m = "LDCIN" then some [.octet, .octet, .octet, .octet, .octet]
  else none

/-- Each operand fits its kind, and there are as many as the mnemonic takes. R130: "An operand out of its field's range
(CMD > 255, DATA > 65535) is an assembly error, not a masked value." -/
def operandsFit : List OperandKind → List Nat → Bool
  | [], [] => true
  | k :: ks, n :: ns => decide (n < k.bound) && operandsFit ks ns
  | _, _ => false

/-- An assembler line that assembles: a known mnemonic, a session number that can exist (R6: at most 8 sessions) and
operands that fit. -/
def AsmLine.wellFormed (l : AsmLine) : Bool :=
  decide (l.session < 8) &&
    match operandKinds l.mnemonic with
    | some ks => operandsFit ks l.operands
    | none => false

/-- R6: CLK_HZ is divisible by 1000 (and a clock runs), BAUD is positive. -/
def Params.wellFormed (p : Params) : Bool :=
  decide (0 < p.clkHz) && decide (p.clkHz % 1000 = 0) && decide (0 < p.baud)

end Sys2Proof
end

