-- ==== Sys2Proof/Decode.lean ====
section
/-! DEFINITION. The host command word (R110 to R116): decoding, encoding, and the assembler's instruction lines (R130).

The operation is told from OP = w[7:0] alone (R113). Fields an operation does not use are ignored (R112), so many words
decode to one instruction; `encode` writes the one whose unused fields are 0, as R130's examples do. -/

namespace Sys2Proof

/-- OP = w[7:0] (R110, R111). -/
def opField (w : Word) : Byte := w.extractLsb' 0 8

/-- CMD = w[15:8] (R110, R111). -/
def cmdField (w : Word) : Byte := w.extractLsb' 8 8

/-- DATA = w[31:16] (R110, R111). -/
def dataField (w : Word) : Data := w.extractLsb' 16 16

/-- R114: `w = (DATA << 16) | (CMD << 8) | OP`. -/
def packCommand (op cmd : Byte) (data : Data) : Word :=
  (data.zeroExtend 32 <<< 16) ||| (cmd.zeroExtend 32 <<< 8) ||| op.zeroExtend 32

/-- The OP value of each operation (R115). -/
def opOf : Instr → Byte
  | .openSession => 0x01#8
  | .closeSession => 0x02#8
  | .send _ _ => 0x03#8
  | .encode _ _ => 0x04#8
  | .decode => 0x05#8
  | .wrsp _ => 0x10#8
  | .rdsp => 0x11#8
  | .wrlu _ => 0x12#8
  | .rdlu => 0x13#8
  | .wrli _ => 0x14#8
  | .rdli => 0x15#8
  | .wrlp _ => 0x16#8
  | .rdlp => 0x17#8
  | .wrmode _ => 0x18#8
  | .rdmode => 0x19#8
  | .rfon => 0x1A#8
  | .rfoff => 0x1B#8
  | .rdoper => 0x1C#8
  | .rsterr => 0x1D#8
  | .rdstat => 0x1E#8
  | .rdapwr => 0x20#8
  | .rdavol => 0x21#8
  | .rdacur => 0x22#8
  | .rdafrq => 0x23#8
  | .genter => 0x30#8
  | .gexitn => 0x31#8
  | .gexite => 0x32#8
  | .gexitf => 0x33#8

/-- Why a word is no operation. -/
inductive DecodeError where
  /-- R116: the OP is reserved. The block completes such a command with ILLEGAL_OP (R311); the decoder only names it. -/
  | reservedOp (op : Byte)
  deriving DecidableEq, Repr

/-- The operation a command word names (R115), or the reserved OP it holds (R116). -/
def decode (w : Word) : Except DecodeError Instr :=
  match (opField w).toNat with
  | 0x01 => .ok .openSession
  | 0x02 => .ok .closeSession
  | 0x03 => .ok (.send (cmdField w) (dataField w))
  | 0x04 => .ok (.encode (cmdField w) (dataField w))
  | 0x05 => .ok .decode
  | 0x10 => .ok (.wrsp (dataField w))
  | 0x11 => .ok .rdsp
  | 0x12 => .ok (.wrlu (dataField w))
  | 0x13 => .ok .rdlu
  | 0x14 => .ok (.wrli (dataField w))
  | 0x15 => .ok .rdli
  | 0x16 => .ok (.wrlp (dataField w))
  | 0x17 => .ok .rdlp
  | 0x18 => .ok (.wrmode (dataField w))
  | 0x19 => .ok .rdmode
  | 0x1A => .ok .rfon
  | 0x1B => .ok .rfoff
  | 0x1C => .ok .rdoper
  | 0x1D => .ok .rsterr
  | 0x1E => .ok .rdstat
  | 0x20 => .ok .rdapwr
  | 0x21 => .ok .rdavol
  | 0x22 => .ok .rdacur
  | 0x23 => .ok .rdafrq
  | 0x30 => .ok .genter
  | 0x31 => .ok .gexitn
  | 0x32 => .ok .gexite
  | 0x33 => .ok .gexitf
  | _ => .error (.reservedOp (opField w))

/-- CMD of the encoded word: the operand of SEND and ENCODE, else 0 (R110, R130). -/
def cmdOf : Instr → Byte
  | .send cmd _ | .encode cmd _ => cmd
  | .wrsp _ | .wrlu _ | .wrli _ | .wrlp _ | .wrmode _ => 0#8
  | .openSession | .closeSession | .decode | .rdsp | .rdlu | .rdli | .rdlp | .rdmode | .rfon | .rfoff
  | .rdoper | .rsterr | .rdstat | .rdapwr | .rdavol | .rdacur | .rdafrq | .genter | .gexitn | .gexite | .gexitf => 0#8

/-- DATA of the encoded word: the operand of the operations R110 lists, else 0 (R110, R130). -/
def dataOf : Instr → Data
  | .send _ data | .encode _ data | .wrsp data | .wrlu data | .wrli data | .wrlp data | .wrmode data => data
  | .openSession | .closeSession | .decode | .rdsp | .rdlu | .rdli | .rdlp | .rdmode | .rfon | .rfoff
  | .rdoper | .rsterr | .rdstat | .rdapwr | .rdavol | .rdacur | .rdafrq | .genter | .gexitn | .gexite | .gexitf => 0#16

/-- The command word of an operation, its unused fields 0 (R114, R130). -/
def encode (i : Instr) : Word := packCommand (opOf i) (cmdOf i) (dataOf i)

/-- R116: the reserved OP values are 0x00, 0x06..0x0F, 0x1F, 0x24..0x2F and 0x34..0xFF. -/
def isReservedOp (op : Byte) : Bool :=
  let n := op.toNat
  decide (n = 0x00 ∨ (0x06 ≤ n ∧ n ≤ 0x0F) ∨ n = 0x1F ∨ (0x24 ≤ n ∧ n ≤ 0x2F) ∨ 0x34 ≤ n)

/-- The instruction the decoder reads from a table row's word: command words are 32 bits and are written whole to
CTRL, so there is no byte order to apply (R92, R113). -/
def decodeTableWord (nbits w : Nat) : Option Instr :=
  match decode (BitVec.ofNat 32 (w % 2 ^ nbits)) with
  | .ok i => some i
  | .error _ => none

/-- The operation an assembler line of R130 names; none for a pseudo-instruction or a line that does not assemble. -/
def asmInstr (l : AsmLine) : Option Instr :=
  if l.wellFormed then
    match l.mnemonic, l.operands with
    | "OPEN", _ => some .openSession
    | "CLOSE", _ => some .closeSession
    | "SEND", [c, d] => some (.send (BitVec.ofNat 8 c) (BitVec.ofNat 16 d))
    | "ENCODE", [c, d] => some (.encode (BitVec.ofNat 8 c) (BitVec.ofNat 16 d))
    | "DECODE", _ => some .decode
    | "WRSP", [d] => some (.wrsp (BitVec.ofNat 16 d))
    | "RDSP", _ => some .rdsp
    | "WRLU", [d] => some (.wrlu (BitVec.ofNat 16 d))
    | "RDLU", _ => some .rdlu
    | "WRLI", [d] => some (.wrli (BitVec.ofNat 16 d))
    | "RDLI", _ => some .rdli
    | "WRLP", [d] => some (.wrlp (BitVec.ofNat 16 d))
    | "RDLP", _ => some .rdlp
    | "WRMODE", [d] => some (.wrmode (BitVec.ofNat 16 d))
    | "RDMODE", _ => some .rdmode
    | "RFON", _ => some .rfon
    | "RFOFF", _ => some .rfoff
    | "RDOPER", _ => some .rdoper
    | "RSTERR", _ => some .rsterr
    | "RDSTAT", _ => some .rdstat
    | "RDAPWR", _ => some .rdapwr
    | "RDAVOL", _ => some .rdavol
    | "RDACUR", _ => some .rdacur
    | "RDAFRQ", _ => some .rdafrq
    | "GENTER", _ => some .genter
    | "GEXITN", _ => some .gexitn
    | "GEXITE", _ => some .gexite
    | "GEXITF", _ => some .gexitf
    | _, _ => none
  else none

end Sys2Proof
end

