-- ==== Sys2Proof/Machine/State.lean ====
section
/-! DEFINITION. The state of the block (R32 to R34), the events that change it (R11), what it shows outside (R13), and
the state after reset (R351). -/

namespace Sys2Proof.Machine

/-- PHASE of a session's engine (R33): the value 3 is never held (log 17). -/
inductive Phase where
  | idle
  | tx
  | rx
  deriving DecidableEq, Repr

/-- The error codes of R301. The reserved codes 10..14 are never produced; 15 stands in GDIS only, where it is the
absence of a code (log 17). -/
inductive ErrCode where
  /-- 0 NONE. -/
  | noError
  /-- 1 CONNECTION. -/
  | connection
  /-- 2 NOT_OPEN. -/
  | notOpen
  /-- 3 VALIDATION. -/
  | validation
  /-- 4 WRITE_TIMEOUT. -/
  | writeTimeout
  /-- 5 READ_TIMEOUT. -/
  | readTimeout
  /-- 6 CHECKSUM_MISMATCH. -/
  | checksumMismatch
  /-- 7 UNSUPPORTED. -/
  | unsupported
  /-- 8 ILLEGAL_OP. -/
  | illegalOp
  /-- 9 GUARD_STATE. -/
  | guardState
  deriving DecidableEq, Repr

/-- CONN_CAUSE (R33, R173). -/
inductive ConnCause where
  | noCause
  | absent
  | busy
  | permission
  deriving DecidableEq, Repr

/-- The five octets of a frame, in wire order (R91, R120). -/
structure Frame where
  /-- Octet 0, address. -/
  b0 : Byte
  /-- Octet 1, command. -/
  b1 : Byte
  /-- Octet 2, data high. -/
  b2 : Byte
  /-- Octet 3, data low. -/
  b3 : Byte
  /-- Octet 4, checksum. -/
  b4 : Byte
  deriving DecidableEq, Repr

/-- A frame register after reset: 0x00 each (R33). -/
def Frame.zero : Frame := ⟨0#8, 0#8, 0#8, 0#8, 0#8⟩

/-- A session record: the fields of R33, in its order. -/
structure Session where
  /-- OPEN. -/
  isOpen : Bool
  /-- BUSY. -/
  busy : Bool
  /-- DONE (R55). -/
  done : Bool
  /-- ERR (R301). -/
  err : ErrCode
  /-- GUARD_ACTIVE (R280). -/
  guardActive : Bool
  /-- CK_VALID (R52). -/
  ckValid : Bool
  /-- RX_DROP (R53). -/
  rxDrop : Bool
  /-- RX_FERR (R53). -/
  rxFerr : Bool
  /-- OVERRUN (R53). -/
  overrun : Bool
  /-- PHASE. -/
  phase : Phase
  /-- RXCNT: response octets collected. -/
  rxcnt : BitVec 3
  /-- GDIS (R56): the outcome of the last RF-disable attempt; none is 0xF, not attempted. -/
  gdis : Option ErrCode
  /-- LAST_OP (R57). -/
  lastOp : Byte
  /-- DONE_IE (R40). -/
  doneIe : Bool
  /-- DEV_ADDR (R41). -/
  devAddr : Byte
  /-- PORT_SEL (R41). -/
  portSel : BitVec 3
  /-- WR_T (R43). -/
  wrT : Data
  /-- RD_T (R43). -/
  rdT : Data
  /-- RESP_ADDR (R44). -/
  respAddr : Byte
  /-- RESP_CMD (R44). -/
  respCmd : Byte
  /-- RESP_DATA (R44). -/
  respData : Data
  /-- RX_CK (R45). -/
  rxCk : Byte
  /-- EXP_CK (R45). -/
  expCk : Byte
  /-- TX_CK (R45). -/
  txCk : Byte
  /-- RESP_OP (R45, R57). -/
  respOp : Byte
  /-- TXF[0..4] (R46). -/
  txf : Frame
  /-- RXF[0..4] (R47). -/
  rxf : Frame
  /-- CIN[0..4] (R48). -/
  cin : Frame
  /-- CONN_CAUSE (R50, R173). -/
  connCause : ConnCause
  /-- TX_LOADED (R50). -/
  txLoaded : BitVec 3
  /-- TX_SENT (R50). -/
  txSent : BitVec 3
  /-- CNT (R50, R184). -/
  cnt : Data
  deriving DecidableEq, Repr

/-- A port record: the fields of R34. -/
structure Port where
  /-- OWNED. -/
  owned : Bool
  /-- OWNER: meaningful only when OWNED. -/
  owner : BitVec 3
  /-- ENABLE (R72). -/
  enable : Bool
  /-- TX_BUSY. -/
  txBusy : Bool
  /-- TX_BYTE: meaningful only when TX_BUSY. -/
  txByte : Byte
  /-- PRESENT: an input, the value of its last `Present` event (R178). -/
  present : Bool
  deriving DecidableEq, Repr

/-- One access of the host bus: a whole 32-bit word (R92). -/
inductive BusAccess where
  /-- `MemWrite(a, 4, v)`. -/
  | write (a : Addr) (v : Word)
  /-- `MemRead(a, 4)`. -/
  | read (a : Addr)
  deriving DecidableEq, Repr

/-- The events of R11, and the bare clock edge of log 12. -/
inductive Input where
  /-- `HostWrite(a, v)` or `HostRead(a)`. -/
  | host (access : BusAccess)
  /-- `RxChar(p, b, ferr)`. -/
  | rxChar (p : Nat) (b : Byte) (ferr : Bool)
  /-- `TxDone(p)`. -/
  | txDone (p : Nat)
  /-- `Tick`. -/
  | tick
  /-- `Present(p, v)`. -/
  | present (p : Nat) (v : Bool)
  /-- `Reset`, with the host access made while `rst` is high, if there is one (R354, log 11). -/
  | reset (during : Option BusAccess)
  /-- One edge of `clk` and nothing else (R318, log 12): no event of R11, but a `Tick` when it ends the divider's
  period. -/
  | clk
  deriving DecidableEq, Repr

/-- What an execution shows outside the block (R13), but for the level of `irq`, which is a function of the state. -/
inductive Output where
  /-- The value `v` a `HostRead(a)` returned. -/
  | readData (a : Addr) (v : Word)
  /-- `TxChar(p, b)`: the block started transmitting `b` on port `p`. -/
  | txChar (p : Nat) (b : Byte)
  deriving DecidableEq, Repr

/-- The block's state (R32), and what the model keeps beside it. -/
structure State where
  /-- The session records; NUM_SESSIONS is their number (R32, log 5). -/
  sessions : List Session
  /-- The port records; NUM_PORTS is their number (R32, log 5). -/
  ports : List Port
  /-- The tick divider: `clk` cycles since the last tick (R318, R350, log 12). -/
  tickDiv : Nat
  /-- MODEL's own: the session operand (R111), the session whose CTRL register is being written (log 3). -/
  sel : Nat
  /-- MODEL's own: the events still to come, oldest first (log 1). -/
  inputs : List Input
  /-- MODEL's own: the observations made so far, oldest first (R13, log 13). -/
  trace : List Output
  /-- The instance's parameters (R6). Not state by R32: no event writes them (log 5, log 6). -/
  params : Params
  deriving DecidableEq, Repr

/-- Why a step stops. No rule of the spec stops the block (R300): both name an input that R11 and R12 say cannot
occur. -/
inductive Fault where
  /-- Raised by a `TxDone(p)` input while port `p` has TX_BUSY = 0, which R12 forbids the environment. Safe: the model
  answers nothing where the spec says nothing happens (log 9). -/
  | txDoneWhileIdle (p : Nat)
  /-- Raised by an `RxChar`, `TxDone` or `Present` input for a port that does not exist: R10 gives ports
  0..NUM_PORTS-1 only. Safe, as above (log 10). -/
  | noSuchPort (p : Nat)
  deriving DecidableEq, Repr

/-- Why a step has no meaning. -/
inductive Refusal where
  /-- Raised by an arm of `exec` whose instruction has no meaning yet; every instruction has one. Safe. -/
  | notModelled (mnemonic : String)
  deriving DecidableEq, Repr

/-- A session's record after reset (R33, R351); `k` is its index. -/
def Session.reset (numPorts k : Nat) : Session where
  isOpen := false
  busy := false
  done := false
  err := .noError
  guardActive := false
  ckValid := false
  rxDrop := false
  rxFerr := false
  overrun := false
  phase := .idle
  rxcnt := 0#3
  gdis := none
  lastOp := 0x00#8
  doneIe := false
  devAddr := 0x00#8
  portSel := BitVec.ofNat 3 (k % numPorts)
  wrT := 1000#16
  rdT := 1000#16
  respAddr := 0x00#8
  respCmd := 0x00#8
  respData := 0x0000#16
  rxCk := 0x00#8
  expCk := 0x00#8
  txCk := 0x00#8
  respOp := 0x00#8
  txf := Frame.zero
  rxf := Frame.zero
  cin := Frame.zero
  connCause := .noCause
  txLoaded := 0#3
  txSent := 0#3
  cnt := 0#16

/-- A port's record after reset (R34, R351), with its PRESENT input at `present`: reset does not change it. -/
def Port.reset (present : Bool) : Port where
  owned := false
  owner := 0#3
  enable := true
  txBusy := false
  txByte := 0x00#8
  present := present

/-- The state right after reset (R351) of an instance with parameters `p`, `ns` sessions and a port for each entry of
`present`, which gives the PRESENT inputs. -/
def State.resetWith (p : Params) (ns : Nat) (present : List Bool) : State where
  sessions := (List.range ns).map (Session.reset present.length)
  ports := present.map Port.reset
  tickDiv := 0
  sel := 0
  inputs := []
  trace := []
  params := p

/-- The machine right after reset (R351): the counts of R6's defaults (log 5), the open parameters opaque (log 6),
no device attached (PRESENT is an input that no event has set yet, log 8), no event to come. -/
def State.reset : State :=
  State.resetWith Config.params Config.numSessions (List.replicate Config.numPorts false)

end Sys2Proof.Machine
end

