-- ==== Sys2Proof/Machine/Flags.lean ====
section
/-! DEFINITION. The flags: the numeric codes of the enumerations, the derived flag COMM_FAULT, the layout of STAT, its
write-one-to-clear bits, and the interrupt. -/

namespace Sys2Proof.Machine

/-- The 4-bit code of R301. -/
def ErrCode.code : ErrCode → BitVec 4
  | .noError => 0#4
  | .connection => 1#4
  | .notOpen => 2#4
  | .validation => 3#4
  | .writeTimeout => 4#4
  | .readTimeout => 5#4
  | .checksumMismatch => 6#4
  | .unsupported => 7#4
  | .illegalOp => 8#4
  | .guardState => 9#4

/-- GDIS as STAT shows it: the attempt's code, or 0xF for "not attempted" (R33, R301). -/
def gdisCode (g : Option ErrCode) : BitVec 4 :=
  match g with
  | some c => c.code
  | none => 0xF#4

/-- PHASE as STAT shows it (R33). -/
def Phase.code : Phase → BitVec 2
  | .idle => 0#2
  | .tx => 1#2
  | .rx => 2#2

/-- CONN_CAUSE as DIAG shows it (R33). -/
def ConnCause.code : ConnCause → BitVec 2
  | .noCause => 0#2
  | .absent => 1#2
  | .busy => 2#2
  | .permission => 3#2

/-- The communication-fault class: codes 4, 5 and 6 (R302). -/
def ErrCode.isCommFault : ErrCode → Bool
  | .writeTimeout | .readTimeout | .checksumMismatch => true
  | .noError | .connection | .notOpen | .validation | .unsupported | .illegalOp | .guardState => false

/-- The value STAT reads (R38, R54); bits 19 and 15 read 0. -/
def statWord (x : Session) : Word :=
  x.lastOp ++ gdisCode x.gdis ++ 0#1 ++ x.rxcnt ++ 0#1 ++ x.phase.code ++ BitVec.ofBool x.overrun ++
    BitVec.ofBool x.rxFerr ++ BitVec.ofBool x.rxDrop ++ BitVec.ofBool x.ckValid ++ BitVec.ofBool x.guardActive ++
    x.err.code ++ BitVec.ofBool x.err.isCommFault ++ BitVec.ofBool x.done ++ BitVec.ofBool x.busy ++
    BitVec.ofBool x.isOpen

/-- What a write of `v` to STAT does (R39): it clears DONE, RX_DROP, RX_FERR and OVERRUN where bits 2, 10, 11 and 12
of `v` are 1, and nothing else. -/
def clearFlags (v : Word) (x : Session) : Session :=
  { x with
    done := x.done && !v.getLsbD 2
    rxDrop := x.rxDrop && !v.getLsbD 10
    rxFerr := x.rxFerr && !v.getLsbD 11
    overrun := x.overrun && !v.getLsbD 12 }

/-- A session's interrupt term (R75, R315). -/
def irqTerm (x : Session) : Bool := x.done && x.doneIe

/-- The level of the `irq` output (R315). -/
def State.irq (s : State) : Bool := s.sessions.any irqTerm

end Sys2Proof.Machine
end

