-- ==== Sys2Proof/Machine/Frame.lean ====
section
/-! DEFINITION. The frame codec (R140 to R147): pure functions of their arguments and of CHECKSUM_ALG, used inside the
step that needs them (R147). -/

namespace Sys2Proof.Machine

/-- SUM8 (R141): the sum of the four octets modulo 256; the carry out of bit 7 is discarded. -/
def sum8 (b0 b1 b2 b3 : Byte) : Byte := b0 + b1 + b2 + b3

/-- XOR8 (R142). -/
def xor8 (b0 b1 b2 b3 : Byte) : Byte := b0 ^^^ b1 ^^^ b2 ^^^ b3

/-- `ck` (R140). -/
def ck (alg : ChecksumAlg) (b0 b1 b2 b3 : Byte) : Byte :=
  match alg with
  | .sum8 => sum8 b0 b1 b2 b3
  | .xor8 => xor8 b0 b1 b2 b3

/-- `ck` of a frame's first four octets: the checksum the frame should carry. -/
def Frame.expectedCk (alg : ChecksumAlg) (f : Frame) : Byte := ck alg f.b0 f.b1 f.b2 f.b3

/-- The high octet of a data value, the one sent first (R91, R121). -/
def dataHigh (d : Data) : Byte := d.extractLsb' 8 8

/-- The low octet of a data value (R91, R121). -/
def dataLow (d : Data) : Byte := d.extractLsb' 0 8

/-- `encode(address, command, data)` (R143). -/
def encodeFrame (alg : ChecksumAlg) (address command : Byte) (data : Data) : Frame where
  b0 := address
  b1 := command
  b2 := dataHigh data
  b3 := dataLow data
  b4 := ck alg address command (dataHigh data) (dataLow data)

/-- What `decode` returns (R144). -/
structure Decoded where
  address : Byte
  command : Byte
  data : Data
  valid : Bool
  deriving DecidableEq, Repr

/-- `decode(F)` (R144): never fails; the fields are returned whatever `valid` is. -/
def decodeFrame (alg : ChecksumAlg) (f : Frame) : Decoded where
  address := f.b0
  command := f.b1
  data := f.b2 ++ f.b3
  valid := f.b4 == f.expectedCk alg

/-- `x[i]`, a frame's octet `i` (R9). A frame has octets 0..4 only and no rule reads another. -/
def Frame.get (f : Frame) (i : Nat) : Byte :=
  match i with
  | 0 => f.b0
  | 1 => f.b1
  | 2 => f.b2
  | 3 => f.b3
  | _ => f.b4

/-- `x[i] <- b` (R9). No rule writes an octet past 4. -/
def Frame.put (f : Frame) (i : Nat) (b : Byte) : Frame :=
  match i with
  | 0 => { f with b0 := b }
  | 1 => { f with b1 := b }
  | 2 => { f with b2 := b }
  | 3 => { f with b3 := b }
  | 4 => { f with b4 := b }
  | _ => f

/-- The register that holds octets 0..3: octet `i` in bits 8i+7:8i (R46 to R48, R93). -/
def Frame.lowWord (f : Frame) : Word := f.b3 ++ f.b2 ++ f.b1 ++ f.b0

/-- The register that holds octet 4 in bits 7:0 (R46 to R48). -/
def Frame.highWord (f : Frame) : Word := f.b4.zeroExtend 32

/-- The octets a write of `v` to the register of octets 0..3 stores (R48). -/
def Frame.withLowWord (f : Frame) (v : Word) : Frame :=
  { f with b0 := v.extractLsb' 0 8, b1 := v.extractLsb' 8 8, b2 := v.extractLsb' 16 8, b3 := v.extractLsb' 24 8 }

/-- The octet a write of `v` to the register of octet 4 stores; bits 31:8 are RAZ/WI (R48). -/
def Frame.withHighWord (f : Frame) (v : Word) : Frame := { f with b4 := v.extractLsb' 0 8 }

end Sys2Proof.Machine
end

