-- ==== Sys2Proof/Machine/Operands.lean ====
section
/-! DEFINITION. What an operation's operands are checked against and looked up in before any I/O: the range checks
(R226, R234, R305) and the opcode map (R124, R125). -/

namespace Sys2Proof.Machine

/-- The range check of the setpoint and of each limit: the closed range 0..1000 (R7, R226). -/
def permilleInRange (d : Data) : Bool := decide (d.toNat ≤ 1000)

/-- The check of the control mode: {0, 1, 2} (R7, R234). -/
def modeInSet (d : Data) : Bool := decide (d.toNat = 0 ∨ d.toNat = 1 ∨ d.toNat = 2)

/-- `OPCODE_MAP[name]`: an octet, or none where the operation is unmapped (R124, R125). -/
def wireOctet (m : OpcodeMap) (name : WireName) : Option Byte :=
  match name with
  | .setpointW => m.setpointW
  | .setpointR => m.setpointR
  | .limitUdcW => m.limitUdcW
  | .limitUdcR => m.limitUdcR
  | .limitIdcW => m.limitIdcW
  | .limitIdcR => m.limitIdcR
  | .limitPdcW => m.limitPdcW
  | .limitPdcR => m.limitPdcR
  | .modeW => m.modeW
  | .modeR => m.modeR
  | .operationW => m.operationW
  | .operationR => m.operationR
  | .resetError => m.resetError
  | .statusR => m.statusR
  | .actPowerR => m.actPowerR
  | .actVoltageR => m.actVoltageR
  | .actCurrentR => m.actCurrentR
  | .actFrequencyR => m.actFrequencyR

/-- The data value a read-type operation sends (R127). -/
def readData : Data := 0x0000#16

/-- The data value RF-enable sends (R7, R236). -/
def rfEnableData : Data := 0x0001#16

/-- The data value RF-disable sends, the guard exits' attempt too (R7, R237, R282). -/
def rfDisableData : Data := 0x0000#16

end Sys2Proof.Machine
end

