-- ==== Sys2Proof/Machine/Ops.lean ====
section
/-! DEFINITION. The procedures every operation and every event is built of: a session's engine and what it may touch,
`End`, `OpenAction`, `CloseAction`, `StartTxn`, `Complete`, `WireOp`, the guard's procedures, `Settle` and `Launch`.

A session's engine works on an `Engine`: its own record, the port table and the trace. That it can reach no other
session's record (R105, R321) is so by construction. -/

namespace Sys2Proof.Machine

/-- What the engine of one session works on (R10 b): its index and the parameters, which it only reads; its record, the
ports and the trace, which it may write. -/
structure Engine where
  idx : Nat
  params : Params
  ses : Session
  ports : List Port
  trace : List Output
  deriving DecidableEq, Repr

/-- The engine of session `k`, whose record is `x`, as it stands in `s`. -/
def State.engine (s : State) (k : Nat) (x : Session) : Engine where
  idx := k
  params := s.params
  ses := x
  ports := s.ports
  trace := s.trace

/-- `s` with what an engine of session `k` may write put back. -/
def State.withEngine (s : State) (k : Nat) (e : Engine) : State :=
  { s with sessions := s.sessions.set k e.ses, ports := e.ports, trace := e.trace }

/-- Run a procedure of session `k`'s engine. Where there is no session `k`, nothing happens (R36, log 16). -/
def State.onSession (k : Nat) (f : Engine → Engine) (s : State) : State :=
  match s.sessions[k]? with
  | some x => s.withEngine k (f (s.engine k x))
  | none => s

/-- Write port `p`'s record. -/
def Engine.modPort (e : Engine) (p : Nat) (f : Port → Port) : Engine := { e with ports := e.ports.modify p f }

/-! ### Completion (R306): the analogue of taking an exception -/

/-- The plain case of `End(s, code)` (R306): the session returns to IDLE, ERR receives the code, DONE is set. -/
def finish (code : ErrCode) (e : Engine) : Engine :=
  { e with ses := { e.ses with phase := .idle, busy := false, err := code, done := true } }

/-- `CloseAction(s)` (R174): release the port, if open. A character in the transmitter is left to finish (R175). -/
def closeAction (e : Engine) : Engine :=
  if e.ses.isOpen then
    { (e.modPort e.ses.portSel.toNat fun q => { q with owned := false, owner := 0#3 }) with
      ses := { e.ses with isOpen := false } }
  else e

/-- `GuardFinish(s)` (R285): close unconditionally, end the scope, complete with NONE. The `End` it calls is the plain
case: it runs with the session in IDLE. -/
def guardFinish (e : Engine) : Engine :=
  let c := closeAction e
  finish .noError { c with ses := { c.ses with guardActive := false } }

/-- Whether the operation in progress is a guard exit that attempts the RF-disable command: LAST_OP in {0x31, 0x32}
(R306). -/
def isGuardExit (op : Byte) : Bool := op == opOf .gexitn || op == opOf .gexite

/-- `End(s, code)` (R306). When the transaction that ends is a guard exit's RF-disable attempt, its outcome goes to
GDIS and the guard is finished. -/
def endOp (code : ErrCode) (e : Engine) : Engine :=
  if e.ses.phase ≠ .idle ∧ isGuardExit e.ses.lastOp = true then
    guardFinish { e with ses := { e.ses with phase := .idle, busy := false, gdis := some code } }
  else finish code e

/-! ### Opening a session -/

/-- An open that fails with CONNECTION for the given cause (R172, R303). -/
def openFails (cause : ConnCause) (e : Engine) : Engine × ErrCode :=
  ({ e with ses := { e.ses with connCause := cause } }, .connection)

/-- `OpenAction(s)` (R172), its causes in R173's order; PORT_SEL ≥ NUM_PORTS is "absent". -/
def openAction (e : Engine) : Engine × ErrCode :=
  if e.ses.isOpen then ({ e with ses := { e.ses with connCause := .noCause } }, .noError)
  else
    match e.ports[e.ses.portSel.toNat]? with
    | none => openFails .absent e
    | some q =>
      if q.present = false then openFails .absent e
      else if q.owned then openFails .busy e
      else if q.enable = false then openFails .permission e
      else
        ({ (e.modPort e.ses.portSel.toNat fun q => { q with owned := true, owner := BitVec.ofNat 3 e.idx }) with
            ses := { e.ses with isOpen := true, connCause := .noCause } }, .noError)

/-! ### Transactions -/

/-- `StartTxn(s, cmd, data)` (R222). -/
def startTxn (cmd : Byte) (data : Data) (e : Engine) : Engine :=
  let f := encodeFrame e.params.checksumAlg e.ses.devAddr cmd data
  { e with ses := { e.ses with
      txf := f, rxf := Frame.zero, txCk := f.b4, rxcnt := 0#3, txLoaded := 0#3, txSent := 0#3, cnt := 0#16,
      phase := .tx, busy := true } }

/-- `Complete(s)` (R223): compare the checksum of the five octets collected; on a match RESP receives them, else RESP
is unchanged. -/
def complete (e : Engine) : Engine :=
  let d := decodeFrame e.params.checksumAlg e.ses.rxf
  let x := { e.ses with
    rxCk := e.ses.rxf.b4, expCk := e.ses.rxf.expectedCk e.params.checksumAlg, ckValid := d.valid }
  if d.valid then
    endOp .noError { e with ses := { x with
      respAddr := d.address, respCmd := d.command, respData := d.data, respOp := e.ses.lastOp } }
  else endOp .checksumMismatch { e with ses := x }

/-- `WireOp(s, name, data, valid)` (R224): VALIDATION before UNSUPPORTED before NOT_OPEN, each before any I/O. -/
def wireOp (name : WireName) (data : Data) (valid : Bool) (e : Engine) : Engine :=
  if valid = false then endOp .validation e
  else
    match wireOctet e.params.opcodeMap name with
    | none => endOp .unsupported e
    | some cmd => if e.ses.isOpen = false then endOp .notOpen e else startTxn cmd data e

/-! ### The lifecycle guard -/

/-- An outcome of the RF-disable attempt known without any I/O (R282): it goes to GDIS and the guard is finished. -/
def guardSkips (code : ErrCode) (e : Engine) : Engine :=
  guardFinish { e with ses := { e.ses with gdis := some code } }

/-- `GuardDisable(s)` (R282): the RF-disable attempt of GEXITN and GEXITE. -/
def guardDisable (e : Engine) : Engine :=
  match wireOctet e.params.opcodeMap .operationW with
  | none => guardSkips .unsupported e
  | some cmd => if e.ses.isOpen = false then guardSkips .notOpen e else startTxn cmd rfDisableData e

/-! ### Settle -/

/-- The transmit hand-off (R183, R188): one octet, when the port's transmitter is idle; it is the event `TxChar`. -/
def handOff (e : Engine) : Engine :=
  let p := e.ses.portSel.toNat
  match e.ports[p]? with
  | none => e
  | some q =>
    if e.ses.phase = .tx ∧ e.ses.txLoaded.toNat < 5 ∧ q.txBusy = false then
      let b := e.ses.txf.get e.ses.txLoaded.toNat
      { (e.modPort p fun q => { q with txBusy := true, txByte := b }) with
        trace := e.trace ++ [.txChar p b]
        ses := { e.ses with txLoaded := e.ses.txLoaded + 1#3 } }
    else e

/-- The write phase completes when TX_SENT = 5; the read phase starts with CNT = 0 (R186, R188). -/
def writePhaseEnd (e : Engine) : Engine :=
  if e.ses.phase = .tx ∧ e.ses.txSent = 5#3 then { e with ses := { e.ses with phase := .rx, cnt := 0#16 } } else e

/-- The read phase's completion, then the two timeouts (R185, R187 to R189). -/
def phaseOutcome (e : Engine) : Engine :=
  if e.ses.phase = .rx ∧ e.ses.rxcnt = 5#3 then complete e
  else if e.ses.phase = .tx ∧ e.ses.wrT ≤ e.ses.cnt then endOp .writeTimeout e
  else if e.ses.phase = .rx ∧ e.ses.rdT ≤ e.ses.cnt then endOp .readTimeout e
  else e

/-- `Settle(s)` (R188). -/
def settle (e : Engine) : Engine :=
  if e.ses.phase = .idle then e else phaseOutcome (writePhaseEnd (handOff e))

/-- `Settle` for sessions 0..n-1 in rising order (R11). -/
def settleUpTo : Nat → State → State
  | 0, s => s
  | n + 1, s => (settleUpTo n s).onSession n settle

/-- `Settle(s)` once for every session `s` in increasing index order (R11). -/
def settleAll (s : State) : State := settleUpTo s.sessions.length s

/-! ### Launch -/

/-- `Launch(s, w)` (R221) up to the operation's own body: refused with OVERRUN while BUSY; else DONE and ERR are
cleared, LAST_OP receives the OP, and the body runs. -/
def launchOn (op : Byte) (body : Engine → Engine) (e : Engine) : Engine :=
  if e.ses.busy then { e with ses := { e.ses with overrun := true } }
  else body { e with ses := { e.ses with done := false, err := .noError, lastOp := op } }

/-- Launch an operation on the session whose CTRL register is being written (R37, R111). -/
def State.launch (op : Byte) (body : Engine → Engine) (s : State) : State := s.onSession s.sel (launchOn op body)

/-- What a meaning answers. -/
abbrev Result := Host.Outcome State Fault Refusal

/-- A command word with a reserved OP (R116, R221, R311): it is launched and completes at once with ILLEGAL_OP. -/
def execReserved (op : Byte) (s : State) : Result := .next (s.launch op (endOp .illegalOp))

end Sys2Proof.Machine
end

