-- ==== Sys2Proof/Machine/Status.lean ====
section
/-! DEFINITION. The status word (R250, R251): its named fields and the packed view that SDEC reads. -/

namespace Sys2Proof.Machine

/-- The remote-control source of a status word (R250). -/
inductive RemoteSource where
  | free
  | internal
  | adInterface
  | rs232
  | rs485
  | profibus
  | unknown
  deriving DecidableEq, Repr

/-- The control mode of a status word (R250): voltage, current, power, or a pattern with no name. -/
inductive ControlMode where
  | udc
  | idc
  | pdc
  | unknown
  deriving DecidableEq, Repr

/-- The named fields of a status word (R250). Bits 13 and 4:2 are decoded into no field; the polarity of bit 15 is not
in the source, so `setpointSource` is the raw bit. -/
structure StatusFields where
  setpointSource : Bool
  circuitReady : Bool
  freqLimitActive : Bool
  powerLimitActive : Bool
  remoteSource : RemoteSource
  controlMode : ControlMode
  samplingDisabled : Bool
  contactorEngaged : Bool
  deriving DecidableEq, Repr

/-- R250, `d[10:8]`: 6 and 7 are UNKNOWN. -/
def remoteSourceOf (d : Data) : RemoteSource :=
  match (d.extractLsb' 8 3).toNat with
  | 0 => .free
  | 1 => .internal
  | 2 => .adInterface
  | 3 => .rs232
  | 4 => .rs485
  | 5 => .profibus
  | _ => .unknown

/-- R250, `d[7:5]`: 3..7 are UNKNOWN. -/
def controlModeOf (d : Data) : ControlMode :=
  match (d.extractLsb' 5 3).toNat with
  | 0 => .udc
  | 1 => .idc
  | 2 => .pdc
  | _ => .unknown

/-- `StatusDecode(d)` (R250). -/
def statusDecode (d : Data) : StatusFields where
  setpointSource := d.getLsbD 15
  circuitReady := d.getLsbD 14
  freqLimitActive := d.getLsbD 12
  powerLimitActive := d.getLsbD 11
  remoteSource := remoteSourceOf d
  controlMode := controlModeOf d
  samplingDisabled := d.getLsbD 1
  contactorEngaged := d.getLsbD 0

/-- REMOTE_SRC in SDEC (R251): UNKNOWN is 0xF. -/
def RemoteSource.code : RemoteSource → BitVec 4
  | .free => 0x0#4
  | .internal => 0x1#4
  | .adInterface => 0x2#4
  | .rs232 => 0x3#4
  | .rs485 => 0x4#4
  | .profibus => 0x5#4
  | .unknown => 0xF#4

/-- CTRL_MODE in SDEC (R251): UNKNOWN is 3. -/
def ControlMode.code : ControlMode → BitVec 2
  | .udc => 0#2
  | .idc => 1#2
  | .pdc => 2#2
  | .unknown => 3#2

/-- `StatusView(d)` (R251). -/
def statusView (d : Data) : Word :=
  let f := statusDecode d
  d ++ 0#4 ++ BitVec.ofBool f.setpointSource ++ BitVec.ofBool f.circuitReady ++ BitVec.ofBool f.freqLimitActive ++
    BitVec.ofBool f.powerLimitActive ++ f.remoteSource.code ++ f.controlMode.code ++ BitVec.ofBool f.samplingDisabled ++
    BitVec.ofBool f.contactorEngaged

end Sys2Proof.Machine
end

