-- ==== Sys2Proof/Machine/Registers.lean ====
section
/-! DEFINITION. The host register space (R36 to R51, R70 to R75): which register an address selects, the value each
reads, and what a write to each but CTRL stores. -/

namespace Sys2Proof.Machine

/-- The registers of a session block (R36). -/
inductive SessionReg where
  | ctrl | stat | ie | cfg | tmo | resp | cksum | txf0 | txf1 | rxf0 | rxf1 | cin0 | cin1 | sdec | diag
  deriving DecidableEq, Repr

/-- The global registers (R70). -/
inductive GlobalReg where
  | id | portEnable | portOwner | portStat | irqStat
  deriving DecidableEq, Repr

/-- What an address selects; `nothing` is RAZ/WI (R36, R51, R70). -/
inductive RegSel where
  | session (k : Nat) (r : SessionReg)
  | global (r : GlobalReg)
  | nothing
  deriving DecidableEq, Repr

/-- The register at word offset `i` of a session block: offset 4i of R36's table. -/
def sessionReg? (i : Nat) : Option SessionReg :=
  match i with
  | 0 => some .ctrl
  | 1 => some .stat
  | 2 => some .ie
  | 3 => some .cfg
  | 4 => some .tmo
  | 5 => some .resp
  | 6 => some .cksum
  | 7 => some .txf0
  | 8 => some .txf1
  | 9 => some .rxf0
  | 10 => some .rxf1
  | 11 => some .cin0
  | 12 => some .cin1
  | 13 => some .sdec
  | 14 => some .diag
  | _ => none

/-- The register at word offset `i` of the global block (R70). -/
def globalReg? (i : Nat) : Option GlobalReg :=
  match i with
  | 0 => some .id
  | 1 => some .portEnable
  | 2 => some .portOwner
  | 3 => some .portStat
  | 4 => some .irqStat
  | _ => none

/-- The register an address selects among `numSessions` session blocks at 0x40*s and the global block at 0x400; a[1:0]
are ignored (R36, R96). -/
def selectReg (numSessions : Nat) (a : Addr) : RegSel :=
  let block := (a.extractLsb' 6 5).toNat
  let offset := (a.extractLsb' 2 4).toNat
  if block < 16 then
    if block < numSessions then
      match sessionReg? offset with
      | some r => .session block r
      | none => .nothing
    else .nothing
  else if block = 16 then
    match globalReg? offset with
    | some r => .global r
    | none => .nothing
  else .nothing

/-- The address of session `k`'s register block: 0x40*k (R36). -/
def sessionBase (k : Nat) : Addr := BitVec.ofNat 11 (0x40 * k)

/-- RESP (R44). -/
def respWord (x : Session) : Word := x.respData ++ x.respCmd ++ x.respAddr

/-- CKSUM (R45). -/
def cksumWord (x : Session) : Word := x.respOp ++ x.txCk ++ x.expCk ++ x.rxCk

/-- CFG (R41); bits 31:11 read 0. -/
def cfgWord (x : Session) : Word := 0#21 ++ x.portSel ++ x.devAddr

/-- TMO (R43). -/
def tmoWord (x : Session) : Word := x.rdT ++ x.wrT

/-- DIAG (R50); bits 15:11, 7 and 3:2 read 0. -/
def diagWord (x : Session) : Word := x.cnt ++ 0#5 ++ x.txSent ++ 0#1 ++ x.txLoaded ++ 0#2 ++ x.connCause.code

/-- The value a session register reads (R37 to R50). -/
def readSessionReg (x : Session) : SessionReg → Word
  | .ctrl => 0#32
  | .stat => statWord x
  | .ie => (BitVec.ofBool x.doneIe).zeroExtend 32
  | .cfg => cfgWord x
  | .tmo => tmoWord x
  | .resp => respWord x
  | .cksum => cksumWord x
  | .txf0 => x.txf.lowWord
  | .txf1 => x.txf.highWord
  | .rxf0 => x.rxf.lowWord
  | .rxf1 => x.rxf.highWord
  | .cin0 => x.cin.lowWord
  | .cin1 => x.cin.highWord
  | .sdec => statusView x.respData
  | .diag => diagWord x

/-- A word whose bit `i` is the list's entry `i`. -/
def packBits : List Bool → Word
  | [] => 0#32
  | b :: bs => (BitVec.ofBool b).zeroExtend 32 ||| (packBits bs <<< 1)

/-- A word whose bits 4i+3:4i are the list's entry `i`. -/
def packNibbles : List (BitVec 4) → Word
  | [] => 0#32
  | n :: ns => n.zeroExtend 32 ||| (packNibbles ns <<< 4)

/-- A port's nibble in PORT_OWNER (R73): OWNED and OWNER, which reads 0 when OWNED = 0. -/
def ownerNibble (q : Port) : BitVec 4 := if q.owned then 1#1 ++ q.owner else 0#4

/-- CHECKSUM_ALG in ID (R71): 0 is SUM8, 1 is XOR8. -/
def algBit : ChecksumAlg → BitVec 1
  | .sum8 => 0#1
  | .xor8 => 1#1

/-- ID (R71); bits 15:9 read 0. -/
def idWord (s : State) : Word :=
  blockVersion ++ s.params.opmapId ++ 0#7 ++ algBit s.params.checksumAlg ++ BitVec.ofNat 4 s.ports.length ++
    BitVec.ofNat 4 s.sessions.length

/-- The value a global register reads (R71 to R75). -/
def readGlobalReg (s : State) : GlobalReg → Word
  | .id => idWord s
  | .portEnable => packBits (s.ports.map (·.enable))
  | .portOwner => packNibbles (s.ports.map ownerNibble)
  | .portStat => packBits (s.ports.map (·.present)) ||| (packBits (s.ports.map (·.txBusy)) <<< 8)
  | .irqStat => packBits (s.sessions.map irqTerm)

/-- `MemRead(a, 4)` (R94): the value of the selected register, or 0. -/
def readReg (s : State) (a : Addr) : Word :=
  match selectReg s.sessions.length a with
  | .session k r =>
    match s.sessions[k]? with
    | some x => readSessionReg x r
    | none => 0#32
  | .global r => readGlobalReg s r
  | .nothing => 0#32

/-- A timeout field is WARL 1..65535: a write of 0 stores 1 (R43). -/
def warlTimeout (v : Data) : Data := if v = 0#16 then 1#16 else v

/-- What a write of `v` to CFG stores while Closed (R41). -/
def storeCfg (v : Word) (x : Session) : Session :=
  { x with devAddr := v.extractLsb' 0 8, portSel := v.extractLsb' 8 3 }

/-- What a write of `v` to TMO stores while Closed (R43). -/
def storeTmo (v : Word) (x : Session) : Session :=
  { x with wrT := warlTimeout (v.extractLsb' 0 16), rdT := warlTimeout (v.extractLsb' 16 16) }

/-- A write of `v` to a session register other than CTRL (R39 to R43, R48); CFG and TMO are frozen while Open (R42);
read-only registers ignore it (R95). CTRL is not written here: it launches (R37). -/
def writeSessionReg (v : Word) (r : SessionReg) (x : Session) : Session :=
  match r with
  | .stat => clearFlags v x
  | .ie => { x with doneIe := v.getLsbD 0 }
  | .cfg => if x.isOpen then x else storeCfg v x
  | .tmo => if x.isOpen then x else storeTmo v x
  | .cin0 => { x with cin := x.cin.withLowWord v }
  | .cin1 => { x with cin := x.cin.withHighWord v }
  | .ctrl | .resp | .cksum | .txf0 | .txf1 | .rxf0 | .rxf1 | .sdec | .diag => x

/-- A write of `v` to PORT_ENABLE (R72): bit p is port p's ENABLE. -/
def storePortEnable (v : Word) (ports : List Port) : List Port :=
  ports.mapIdx fun p q => { q with enable := v.getLsbD p }

/-- A write of `v` to a global register (R72, R95): PORT_ENABLE alone is writable. -/
def writeGlobalReg (v : Word) (r : GlobalReg) (s : State) : State :=
  match r with
  | .portEnable => { s with ports := storePortEnable v s.ports }
  | .id | .portOwner | .portStat | .irqStat => s

end Sys2Proof.Machine
end

