-- ==== Sys2Proof/Machine/Assembler.lean ====
section
/-! DEFINITION. What an assembler line makes the host do (R130, R131): a list of bus accesses. -/

namespace Sys2Proof.Machine

/-- The address of session `k`'s register at byte offset `off` (R36). -/
def sessionAddr (k off : Nat) : Addr := BitVec.ofNat 11 (0x40 * k + off)

/-- The accesses of a pseudo-instruction (R131); none for a line that is none. WAIT is one poll of STAT; the host
repeats it until `waitOver` (log 15). -/
def pseudoAccesses (l : AsmLine) : Option (List BusAccess) :=
  let k := l.session
  match l.mnemonic, l.operands with
  | "WAIT", [] => some [.read (sessionAddr k 0x04)]
  | "CHECK", [] => some [.read (sessionAddr k 0x04)]
  | "ACK", [] => some [.write (sessionAddr k 0x04) 0x00000004#32]
  | "SETCFG", [addr, port] => some [.write (sessionAddr k 0x0C) (BitVec.ofNat 32 (port * 2 ^ 8 + addr))]
  | "SETTMO", [wr, rd] => some [.write (sessionAddr k 0x10) (BitVec.ofNat 32 (rd * 2 ^ 16 + wr))]
  | "LDCIN", [b0, b1, b2, b3, b4] =>
    some [.write (sessionAddr k 0x2C) (BitVec.ofNat 32 (b3 * 2 ^ 24 + b2 * 2 ^ 16 + b1 * 2 ^ 8 + b0)),
      .write (sessionAddr k 0x30) (BitVec.ofNat 32 b4)]
  | _, _ => none

/-- The accesses of a line (R130, R131): an operation is one write of its word to its session's CTRL; none for a line
that does not assemble. -/
def asmAccesses (l : AsmLine) : Option (List BusAccess) :=
  if l.wellFormed then
    match asmInstr l with
    | some i => some [.write (sessionAddr l.session 0x00) (encode i)]
    | none => pseudoAccesses l
  else none

/-- WAIT ends at the first poll whose BUSY bit is 0 (R131). -/
def waitOver (stat : Word) : Bool := !stat.getLsbD 1

/-- What CHECK yields: `r[7:4]`, ERR (R131). -/
def checkYields (stat : Word) : BitVec 4 := stat.extractLsb' 4 4

end Sys2Proof.Machine
end

