-- ==== Sys2Proof/Machine/Codec.lean ====
section
/-! DEFINITION. The family of the frame codec (40_frame_codec.md): ENCODE and DECODE, with no I/O and no need of an
open session. -/

namespace Sys2Proof.Machine

/-- ENCODE's body (R148): TXF and TX_CK receive the request frame. -/
def encodeBody (cmd : Byte) (data : Data) (e : Engine) : Engine :=
  let f := encodeFrame e.params.checksumAlg e.ses.devAddr cmd data
  endOp .noError { e with ses := { e.ses with txf := f, txCk := f.b4 } }

/-- DECODE's body (R149): RESP is written even when the checksum does not match, which CK_VALID alone reports. -/
def decodeBody (e : Engine) : Engine :=
  let d := decodeFrame e.params.checksumAlg e.ses.cin
  endOp .noError { e with ses := { e.ses with
    respAddr := d.address, respCmd := d.command, respData := d.data, respOp := opOf .decode,
    rxCk := e.ses.cin.b4, expCk := e.ses.cin.expectedCk e.params.checksumAlg, ckValid := d.valid } }

/-- ENCODE (R148). -/
def execEncode (cmd : Byte) (data : Data) (s : State) : Result :=
  .next (s.launch (opOf (.encode cmd data)) (encodeBody cmd data))

/-- DECODE (R149). -/
def execDecode (s : State) : Result := .next (s.launch (opOf .decode) decodeBody)

end Sys2Proof.Machine
end

