-- ==== Sys2Proof/Machine/Command.lean ====
section
/-! DEFINITION. The family of the command engine (42_command_engine.md): SEND and the typed operations, each one line
over `wireOp` (R224, R126). -/

namespace Sys2Proof.Machine

/-- SEND's body (R225): no validation and no opcode-map lookup. -/
def sendBody (cmd : Byte) (data : Data) (e : Engine) : Engine :=
  if e.ses.isOpen = false then endOp .notOpen e else startTxn cmd data e

/-- RSTERR's body (R239): the data value is the parameter RESET_ERROR_DATA. -/
def rsterrBody (e : Engine) : Engine := wireOp .resetError e.params.resetErrorData true e

/-- SEND (R225). -/
def execSend (cmd : Byte) (data : Data) (s : State) : Result :=
  .next (s.launch (opOf (.send cmd data)) (sendBody cmd data))

/-- WRSP write setpoint (R226). -/
def execWrsp (data : Data) (s : State) : Result :=
  .next (s.launch (opOf (.wrsp data)) (wireOp .setpointW data (permilleInRange data)))

/-- RDSP read setpoint (R227). -/
def execRdsp (s : State) : Result := .next (s.launch (opOf .rdsp) (wireOp .setpointR readData true))

/-- WRLU write voltage (UDC) limit (R228). -/
def execWrlu (data : Data) (s : State) : Result :=
  .next (s.launch (opOf (.wrlu data)) (wireOp .limitUdcW data (permilleInRange data)))

/-- RDLU read voltage (UDC) limit (R229). -/
def execRdlu (s : State) : Result := .next (s.launch (opOf .rdlu) (wireOp .limitUdcR readData true))

/-- WRLI write current (IDC) limit (R230). -/
def execWrli (data : Data) (s : State) : Result :=
  .next (s.launch (opOf (.wrli data)) (wireOp .limitIdcW data (permilleInRange data)))

/-- RDLI read current (IDC) limit (R231). -/
def execRdli (s : State) : Result := .next (s.launch (opOf .rdli) (wireOp .limitIdcR readData true))

/-- WRLP write power (PDC) limit (R232). -/
def execWrlp (data : Data) (s : State) : Result :=
  .next (s.launch (opOf (.wrlp data)) (wireOp .limitPdcW data (permilleInRange data)))

/-- RDLP read power (PDC) limit (R233). -/
def execRdlp (s : State) : Result := .next (s.launch (opOf .rdlp) (wireOp .limitPdcR readData true))

/-- WRMODE write control mode (R234). -/
def execWrmode (data : Data) (s : State) : Result :=
  .next (s.launch (opOf (.wrmode data)) (wireOp .modeW data (modeInSet data)))

/-- RDMODE read control mode (R235). -/
def execRdmode (s : State) : Result := .next (s.launch (opOf .rdmode) (wireOp .modeR readData true))

/-- RFON RF enable (R236). -/
def execRfon (s : State) : Result := .next (s.launch (opOf .rfon) (wireOp .operationW rfEnableData true))

/-- RFOFF RF disable (R237). -/
def execRfoff (s : State) : Result := .next (s.launch (opOf .rfoff) (wireOp .operationW rfDisableData true))

/-- RDOPER read operation state (R238). -/
def execRdoper (s : State) : Result := .next (s.launch (opOf .rdoper) (wireOp .operationR readData true))

/-- RSTERR reset error (R239). -/
def execRsterr (s : State) : Result := .next (s.launch (opOf .rsterr) rsterrBody)

/-- RDSTAT read status (R240). -/
def execRdstat (s : State) : Result := .next (s.launch (opOf .rdstat) (wireOp .statusR readData true))

/-- RDAPWR read actual power (R241). -/
def execRdapwr (s : State) : Result := .next (s.launch (opOf .rdapwr) (wireOp .actPowerR readData true))

/-- RDAVOL read actual voltage (R242). -/
def execRdavol (s : State) : Result := .next (s.launch (opOf .rdavol) (wireOp .actVoltageR readData true))

/-- RDACUR read actual current (R243). -/
def execRdacur (s : State) : Result := .next (s.launch (opOf .rdacur) (wireOp .actCurrentR readData true))

/-- RDAFRQ read actual frequency (R244). -/
def execRdafrq (s : State) : Result := .next (s.launch (opOf .rdafrq) (wireOp .actFrequencyR readData true))

end Sys2Proof.Machine
end

