-- ==== Sys2Proof/Machine/Guard.lean ====
section
/-! DEFINITION. The family of the session lifecycle guard (43_lifecycle_guard.md): GENTER, GEXITN, GEXITE, GEXITF. -/

namespace Sys2Proof.Machine

/-- GENTER's body (R281): GUARD_STATE inside a scope; a failed open leaves no scope. -/
def genterBody (e : Engine) : Engine :=
  if e.ses.guardActive then endOp .guardState e
  else
    let r := openAction e
    if r.2 = .noError then endOp .noError { r.1 with ses := { r.1.ses with guardActive := true } }
    else endOp r.2 r.1

/-- The body of GEXITN and GEXITE (R282, R283): GUARD_STATE outside a scope, else the RF-disable attempt. -/
def guardExitBody (e : Engine) : Engine :=
  if e.ses.guardActive = false then endOp .guardState e else guardDisable e

/-- GEXITF's body (R284): the attempt is skipped and the session is closed directly. -/
def gexitfBody (e : Engine) : Engine :=
  if e.ses.guardActive = false then endOp .guardState e
  else guardFinish { e with ses := { e.ses with gdis := none } }

/-- GENTER (R281). -/
def execGenter (s : State) : Result := .next (s.launch (opOf .genter) genterBody)

/-- GEXITN (R282). -/
def execGexitn (s : State) : Result := .next (s.launch (opOf .gexitn) guardExitBody)

/-- GEXITE (R283). -/
def execGexite (s : State) : Result := .next (s.launch (opOf .gexite) guardExitBody)

/-- GEXITF (R284). -/
def execGexitf (s : State) : Result := .next (s.launch (opOf .gexitf) gexitfBody)

end Sys2Proof.Machine
end

