-- ==== Sys2Proof/Machine/Transport.lean ====
section
/-! DEFINITION. The family of the transport session (41_transport_session.md): OPEN and CLOSE. -/

namespace Sys2Proof.Machine

/-- OPEN (R172): `End(s, OpenAction(s))`. -/
def openBody (e : Engine) : Engine := endOp (openAction e).2 (openAction e).1

/-- CLOSE (R174): `CloseAction(s) ; End(s, NONE)`. -/
def closeBody (e : Engine) : Engine := endOp .noError (closeAction e)

/-- OPEN (R172). -/
def execOpenSession (s : State) : Result := .next (s.launch (opOf .openSession) openBody)

/-- CLOSE (R174). -/
def execCloseSession (s : State) : Result := .next (s.launch (opOf .closeSession) closeBody)

end Sys2Proof.Machine
end

