-- ==== Sys2Proof/Machine/Dispatch.lean ====
section
/-! DEFINITION. One arm per operation of R115, each its own meaning. -/

namespace Sys2Proof.Machine

def exec (i : Instr) (s : State) : Host.Outcome State Fault Refusal :=
  match i with
  | .openSession => Sys2Proof.Machine.execOpenSession s
  | .closeSession => Sys2Proof.Machine.execCloseSession s
  | .send cmd data => Sys2Proof.Machine.execSend cmd data s
  | .encode cmd data => Sys2Proof.Machine.execEncode cmd data s
  | .decode => Sys2Proof.Machine.execDecode s
  | .wrsp data => Sys2Proof.Machine.execWrsp data s
  | .rdsp => Sys2Proof.Machine.execRdsp s
  | .wrlu data => Sys2Proof.Machine.execWrlu data s
  | .rdlu => Sys2Proof.Machine.execRdlu s
  | .wrli data => Sys2Proof.Machine.execWrli data s
  | .rdli => Sys2Proof.Machine.execRdli s
  | .wrlp data => Sys2Proof.Machine.execWrlp data s
  | .rdlp => Sys2Proof.Machine.execRdlp s
  | .wrmode data => Sys2Proof.Machine.execWrmode data s
  | .rdmode => Sys2Proof.Machine.execRdmode s
  | .rfon => Sys2Proof.Machine.execRfon s
  | .rfoff => Sys2Proof.Machine.execRfoff s
  | .rdoper => Sys2Proof.Machine.execRdoper s
  | .rsterr => Sys2Proof.Machine.execRsterr s
  | .rdstat => Sys2Proof.Machine.execRdstat s
  | .rdapwr => Sys2Proof.Machine.execRdapwr s
  | .rdavol => Sys2Proof.Machine.execRdavol s
  | .rdacur => Sys2Proof.Machine.execRdacur s
  | .rdafrq => Sys2Proof.Machine.execRdafrq s
  | .genter => Sys2Proof.Machine.execGenter s
  | .gexitn => Sys2Proof.Machine.execGexitn s
  | .gexite => Sys2Proof.Machine.execGexite s
  | .gexitf => Sys2Proof.Machine.execGexitf s

end Sys2Proof.Machine
end

