-- ==== Sys2Proof/Machine/Bus.lean ====
section
/-! DEFINITION. The host bus: `HostWrite` and `HostRead` (R94, R95). A write to a CTRL register is the launch of the
operation its word names (R37): the one place where `exec` is called. -/

namespace Sys2Proof.Machine

/-- `Launch(k, w)` (R221): the operation of the word, or ILLEGAL_OP for a reserved OP. -/
def launchWord (k : Nat) (w : Word) (s : State) : Result :=
  match decode w with
  | .ok i => exec i { s with sel := k }
  | .error (.reservedOp op) => execReserved op { s with sel := k }

/-- `HostWrite(a, v)` (R95). -/
def hostWrite (a : Addr) (v : Word) (s : State) : Result :=
  match selectReg s.sessions.length a with
  | .session k .ctrl => launchWord k v s
  | .session k r => .next { s with sessions := s.sessions.modify k (writeSessionReg v r) }
  | .global r => .next (writeGlobalReg v r s)
  | .nothing => .next s

/-- `HostRead(a)` (R94): the value is shown outside (R13) and nothing else changes. -/
def hostRead (a : Addr) (s : State) : State := { s with trace := s.trace ++ [.readData a (readReg s a)] }

/-- A host access (R92). -/
def hostAccess (access : BusAccess) (s : State) : Result :=
  match access with
  | .write a v => hostWrite a v s
  | .read a => .next (hostRead a s)

end Sys2Proof.Machine
end

