-- ==== Sys2Proof/Machine/Events.lean ====
section
/-! DEFINITION. The events of R11 and what each does: the port events, the timebase and reset. -/

namespace Sys2Proof.Machine

/-! ### Port events -/

/-- `RxChar` at the owning session (R180, R181). -/
def receiveOctet (b : Byte) (ferr : Bool) (e : Engine) : Engine :=
  if ferr then { e with ses := { e.ses with rxFerr := true } }
  else if e.ses.phase ≠ .idle ∧ e.ses.rxcnt.toNat < 5 then
    { e with ses := { e.ses with rxf := e.ses.rxf.put e.ses.rxcnt.toNat b, rxcnt := e.ses.rxcnt + 1#3 } }
  else { e with ses := { e.ses with rxDrop := true } }

/-- `RxChar(p, b, ferr)` (R180): dropped without a flag when no session holds the port. -/
def rxCharEvent (p : Nat) (b : Byte) (ferr : Bool) (s : State) : Result :=
  match s.ports[p]? with
  | none => .fault (.noSuchPort p)
  | some q => .next (if q.owned then s.onSession q.owner.toNat (receiveOctet b ferr) else s)

/-- `TxDone` at the owning session (R182): only octets this transaction loaded are counted. -/
def countSent (e : Engine) : Engine :=
  if e.ses.phase = .tx ∧ e.ses.txSent < e.ses.txLoaded then
    { e with ses := { e.ses with txSent := e.ses.txSent + 1#3 } }
  else e

/-- `s` with port `p`'s transmitter idle (R182). -/
def State.txIdle (p : Nat) (s : State) : State := { s with ports := s.ports.modify p fun q => { q with txBusy := false } }

/-- `TxDone(p)` (R182); it may occur only while TX_BUSY = 1 (R12). -/
def txDoneEvent (p : Nat) (s : State) : Result :=
  match s.ports[p]? with
  | none => .fault (.noSuchPort p)
  | some q =>
    if q.txBusy = false then .fault (.txDoneWhileIdle p)
    else .next (if q.owned then (s.txIdle p).onSession q.owner.toNat countSent else s.txIdle p)

/-- `Present(p, v)` (R178). -/
def presentEvent (p : Nat) (v : Bool) (s : State) : Result :=
  match s.ports[p]? with
  | none => .fault (.noSuchPort p)
  | some _ => .next { s with ports := s.ports.modify p fun q => { q with present := v } }

/-! ### The timebase -/

/-- What a tick does to a session (R184): CNT counts, saturating at 0xFFFF, unless the session is IDLE. -/
def tickSession (x : Session) : Session :=
  if x.phase = .idle then x else { x with cnt := if x.cnt = 0xFFFF#16 then 0xFFFF#16 else x.cnt + 1#16 }

/-- `Tick` (R184): one period of the timebase has elapsed, so the divider starts anew (R318). -/
def tickEvent (s : State) : State := { s with sessions := s.sessions.map tickSession, tickDiv := 0 }

/-- The divider's period: CLK_HZ/1000 cycles of `clk` (R318). -/
def tickPeriod (p : Params) : Nat := p.clkHz / 1000

/-- Whether the next edge of `clk` ends the divider's period (R318). -/
def tickDue (s : State) : Bool := decide (tickPeriod s.params ≤ s.tickDiv + 1)

/-! ### Reset -/

/-- What `Reset` leaves (R350, R351): every session and port field at its reset value, the divider at 0; PRESENT is an
input and is kept. The session operand, which no rule holds between steps, returns to 0 (log 3). -/
def resetState (s : State) : State :=
  { s with
    sessions := (List.range s.sessions.length).map (Session.reset s.ports.length)
    ports := s.ports.map fun q => Port.reset q.present
    tickDiv := 0
    sel := 0 }

/-- `Reset` (R350). A host access while `rst` is high is ignored, and a read then returns 0 (R354). -/
def resetEvent (during : Option BusAccess) (s : State) : State :=
  match during with
  | some (.read a) => { resetState s with trace := s.trace ++ [.readData a 0#32] }
  | some (.write _ _) => resetState s
  | none => resetState s

/-! ### One event -/

/-- The `Settle` that ends every event's step but a reset's (R11). -/
def thenSettle (r : Result) : Result :=
  match r with
  | .next s => .next (settleAll s)
  | .fault f => .fault f
  | .refused f => .refused f

/-- The step an event triggers (R11). A bare clock edge that does not end the divider's period is no event of R11: it
moves the divider and nothing else (log 12). -/
def stepEvent (i : Input) (s : State) : Result :=
  match i with
  | .host access => thenSettle (hostAccess access s)
  | .rxChar p b ferr => thenSettle (rxCharEvent p b ferr s)
  | .txDone p => thenSettle (txDoneEvent p s)
  | .tick => thenSettle (.next (tickEvent s))
  | .present p v => thenSettle (presentEvent p v s)
  | .reset during => .next (resetEvent during s)
  | .clk => if tickDue s then thenSettle (.next (tickEvent s)) else .next { s with tickDiv := s.tickDiv + 1 }

end Sys2Proof.Machine
end

