-- ==== Sys2Proof/Machine/Uart.lean ====
section
/-! DEFINITION. The UART character on a line (R128, R129): what its levels are, and the `RxChar` event a received
character is. The model's steps work on whole characters (R179, log 14). -/

namespace Sys2Proof.Machine

/-- The level of an idle line: high (R128, R350). -/
def lineIdle : Bool := true

/-- The ten levels of one character in the order of time: start bit low, 8 data bits least significant first, stop bit
high; no parity (R128). -/
def characterLevels (b : Byte) : List Bool :=
  false :: ((List.range 8).map fun i => b.getLsbD i) ++ [true]

/-- The event a receiver delivers on port `p` for the eight data levels and the stop level it sampled: a stop bit
sampled low is a framing error (R129, R180). -/
def receivedCharacter (p : Nat) (d0 d1 d2 d3 d4 d5 d6 d7 stop : Bool) : Input :=
  .rxChar p
    (BitVec.ofBool d7 ++ BitVec.ofBool d6 ++ BitVec.ofBool d5 ++ BitVec.ofBool d4 ++ BitVec.ofBool d3 ++
      BitVec.ofBool d2 ++ BitVec.ofBool d1 ++ BitVec.ofBool d0)
    (!stop)

/-- What the receiver makes of ten sampled levels whose first is the start bit; a break, the line held low, is a
framing error of the octet 0 (R129). -/
def receiveLevels (p : Nat) (levels : List Bool) : Option Input :=
  match levels with
  | [false, d0, d1, d2, d3, d4, d5, d6, d7, stop] => some (receivedCharacter p d0 d1 d2 d3 d4 d5 d6 d7 stop)
  | _ => none

end Sys2Proof.Machine
end

