-- ==== Sys2Proof/Machine/Step.lean ====
section
/-! DEFINITION. One step: the next event, if there is one (R11). -/

namespace Sys2Proof.Machine

/-- One step (R11): the oldest event still to come takes its effect. With no event to come the state does not change:
"The state changes only by atomic steps, each triggered by exactly one event" (log 2). -/
def step (s : State) : Host.Outcome State Fault Refusal :=
  match s.inputs with
  | [] => .next s
  | i :: rest => stepEvent i { s with inputs := rest }

/-- `s` with the command word `w` as the next thing the host does: a write to session 0's CTRL register (R31, R37; log
4). Bits above `nbits` are 0. -/
def State.withFetchWord (s : State) (nbits w : Nat) : State :=
  { s with inputs := .host (.write (sessionBase 0) (BitVec.ofNat 32 (w % 2 ^ nbits))) :: s.inputs }

end Sys2Proof.Machine
end

