-- ==== Sys2Proof/Safety.lean ====
section
/-! DEFINITION. The terms the claims use: the invariant of R35 with what `Settle` leaves (R188), when a session accepts
a command, the records the rules say a command leaves, and runs over a list of events. -/

namespace Sys2Proof.Machine

/-! ### Writing one record -/

/-- `s` with session `k`'s record replaced. -/
def State.setSession (s : State) (k : Nat) (x : Session) : State := { s with sessions := s.sessions.set k x }

/-- `s` with port `p`'s record replaced. -/
def State.setPort (s : State) (p : Nat) (q : Port) : State := { s with ports := s.ports.set p q }

/-! ### Accepting a command -/

/-- The session whose CTRL register is being written exists, its record is `x`, and it is not BUSY; PHASE is then IDLE
(R35 a). -/
def Ready (s : State) (x : Session) : Prop := s.sessions[s.sel]? = some x ∧ x.busy = false ∧ x.phase = .idle

/-- The record of a command that completed in its launching step with code `code`, all else as in `x` (R221, R306). -/
def completed (i : Instr) (code : ErrCode) (x : Session) : Session :=
  { x with done := true, err := code, lastOp := opOf i }

/-- The record of a command that started a transaction sending `cmd` and `data` (R221, R222), all else as in `x`. -/
def started (alg : ChecksumAlg) (i : Instr) (cmd : Byte) (data : Data) (x : Session) : Session :=
  { x with
    done := false, err := .noError, lastOp := opOf i
    txf := encodeFrame alg x.devAddr cmd data
    txCk := ck alg x.devAddr cmd (dataHigh data) (dataLow data)
    rxf := Frame.zero
    rxcnt := 0#3, txLoaded := 0#3, txSent := 0#3, cnt := 0#16
    phase := .tx, busy := true }

/-- Instruction `i` starts a transaction of wire operation `name` with data `data` on a session that is ready and Open,
where the operation is mapped (R224). -/
def StartsWire (i : Instr) (name : WireName) (data : Params → Data) : Prop :=
  ∀ (s : State) (x : Session) (cmd : Byte), Ready s x → x.isOpen = true →
    wireOctet s.params.opcodeMap name = some cmd →
    exec i s = .next (s.setSession s.sel (started s.params.checksumAlg i cmd (data s.params) x))

/-- Instruction `i` completes at once with `code` on a session that is ready, and changes nothing but DONE, ERR and
LAST_OP (R306, R314). -/
def CompletesWith (i : Instr) (code : ErrCode) (s : State) (x : Session) : Prop :=
  Ready s x → exec i s = .next (s.setSession s.sel (completed i code x))

/-- The wire operation of each typed operation (R126). -/
def wireNameOf : Instr → Option WireName
  | .wrsp _ => some .setpointW
  | .rdsp => some .setpointR
  | .wrlu _ => some .limitUdcW
  | .rdlu => some .limitUdcR
  | .wrli _ => some .limitIdcW
  | .rdli => some .limitIdcR
  | .wrlp _ => some .limitPdcW
  | .rdlp => some .limitPdcR
  | .wrmode _ => some .modeW
  | .rdmode => some .modeR
  | .rfon | .rfoff => some .operationW
  | .rdoper => some .operationR
  | .rsterr => some .resetError
  | .rdstat => some .statusR
  | .rdapwr => some .actPowerR
  | .rdavol => some .actVoltageR
  | .rdacur => some .actCurrentR
  | .rdafrq => some .actFrequencyR
  | .openSession | .closeSession | .send _ _ | .encode _ _ | .decode | .genter | .gexitn | .gexite | .gexitf => none

/-- The pre-I/O check of each operation (R126): DATA ≤ 1000, DATA in {0, 1, 2}, or none. -/
def PassesCheck : Instr → Prop
  | .wrsp d | .wrlu d | .wrli d | .wrlp d => d.toNat ≤ 1000
  | .wrmode d => d.toNat = 0 ∨ d.toNat = 1 ∨ d.toNat = 2
  | .openSession | .closeSession | .send _ _ | .encode _ _ | .decode | .rdsp | .rdlu | .rdli | .rdlp | .rdmode | .rfon
  | .rfoff | .rdoper | .rsterr | .rdstat | .rdapwr | .rdavol | .rdacur | .rdafrq | .genter | .gexitn | .gexite
  | .gexitf => True

/-- R173: why the port `p` cannot be acquired, the first match of the three causes in their order; none when it can. -/
def connectionCause (ports : List Port) (p : Nat) : Option ConnCause :=
  match ports[p]? with
  | none => some .absent
  | some q =>
    if q.present = false then some .absent
    else if q.owned = true then some .busy
    else if q.enable = false then some .permission
    else none

/-! ### The invariant -/

/-- R35 for one session, with the timeouts' legal range (R43). -/
structure SessionOk (ports : List Port) (k : Nat) (x : Session) : Prop where
  /-- R35 (a). -/
  busy_iff : x.busy = true ↔ x.phase ≠ .idle
  /-- R35 (b). -/
  busy_open : x.busy = true → x.isOpen = true
  /-- R35 (e). -/
  done_idle : x.done = true → x.busy = false
  /-- R35 (d). -/
  sent_le : x.txSent.toNat ≤ x.txLoaded.toNat
  /-- R35 (d). -/
  loaded_le : x.txLoaded.toNat ≤ 5
  /-- R35 (d). -/
  rxcnt_le : x.rxcnt.toNat ≤ 5
  /-- R43. -/
  wrT_pos : 0 < x.wrT.toNat
  /-- R43. -/
  rdT_pos : 0 < x.rdT.toNat
  /-- R35 (c): an Open session holds the port its PORT_SEL names. -/
  holds_port : x.isOpen = true →
    ∃ q, ports[x.portSel.toNat]? = some q ∧ q.owned = true ∧ q.owner.toNat = k

/-- R35 (c) for one port: a held port is held by an Open session that selects it; a free port has OWNER 0 (R34, R174). -/
structure PortOk (sessions : List Session) (p : Nat) (q : Port) : Prop where
  held : q.owned = true → ∃ x, sessions[q.owner.toNat]? = some x ∧ x.isOpen = true ∧ x.portSel.toNat = p
  free : q.owned = false → q.owner = 0#3

/-- What `Settle` leaves (R188: "after it, no condition of `Settle` holds again until the next event"), and what is in
the transmitter meanwhile (R182, R183): in phase TX the port is transmitting, either the last octet this transaction
loaded, TXF[TX_SENT], or, before any octet is loaded, a character left over from before. -/
structure SettledOk (ports : List Port) (x : Session) : Prop where
  tx_bounds : x.phase = .tx → x.txSent.toNat < 5 ∧ x.cnt.toNat < x.wrT.toNat
  tx_busy : x.phase = .tx → ∃ q, ports[x.portSel.toNat]? = some q ∧ q.txBusy = true ∧
    ((x.txLoaded.toNat = 0 ∧ x.txSent.toNat = 0) ∨
      (x.txLoaded.toNat = x.txSent.toNat + 1 ∧ q.txByte = x.txf.get x.txSent.toNat))
  rx_bounds : x.phase = .rx → x.rxcnt.toNat < 5 ∧ x.cnt.toNat < x.rdT.toNat ∧ x.txLoaded.toNat = 5 ∧ x.txSent.toNat = 5

/-- The invariant of the block: R35, with R6's counts and what `Settle` leaves. -/
structure State.Inv (s : State) : Prop where
  sessions_count : 1 ≤ s.sessions.length ∧ s.sessions.length ≤ 8
  ports_count : 1 ≤ s.ports.length ∧ s.ports.length ≤ 8
  session_ok : ∀ (k : Nat) (x : Session), s.sessions[k]? = some x → SessionOk s.ports k x
  port_ok : ∀ (p : Nat) (q : Port), s.ports[p]? = some q → PortOk s.sessions p q
  settled_ok : ∀ (k : Nat) (x : Session), s.sessions[k]? = some x → SettledOk s.ports x

/-! ### Runs -/

/-- What the block answers after the events `es`, one a step (R11), whatever events `s` still held. -/
def after (s : State) (es : List Input) : Result := Host.Core.run Sys2Proof.core es.length { s with inputs := es }

end Sys2Proof.Machine
end

