-- ==== Sys2Proof/Certificates/Slice0/Obligations.lean ====
section
/-! DEFINITION. The statements for the provers. Each conclusion that is an equation `exec i s = .next …` is the whole
result of the instruction: the record and the port written, and everything else as it was. -/

open Sys2Proof
open Sys2Proof.Machine

/-! ### Encoding -/

/-- Tests of the decoder on words written out from R110 and R115; unused fields are ignored (R112). -/
def Obligations.CommandWordsDecode : Prop :=
  decode 0x00000001#32 = .ok .openSession ∧
    decode 0x00000E03#32 = .ok (.send 0x0E#8 0#16) ∧
    decode 0x00320104#32 = .ok (.encode 0x01#8 50#16) ∧
    decode 0x01F40010#32 = .ok (.wrsp 500#16) ∧
    decode 0xFFFF001A#32 = .ok .rfon ∧
    decode 0x0000AB11#32 = .ok .rdsp ∧
    decode 0x00000032#32 = .ok .gexite ∧
    decode 0x00000006#32 = .error (.reservedOp 0x06#8)

/-- R114 and R115: decoding the word of an operation gives it back, with every operand at every value. -/
def Obligations.DecodeInvertsEncode : Prop :=
  ∀ i : Instr, decode (encode i) = .ok i

/-- R110 to R114: a word that names an operation is that operation's word but for the fields the operation does not
use, and the fields it uses are read at their places: CMD by SEND and ENCODE, DATA by the seven operations R110 lists. -/
def Obligations.DecodedFieldsAreTheWordsFields : Prop :=
  ∀ (w : Word) (i : Instr), decode w = .ok i →
    opOf i = w.extractLsb' 0 8 ∧
      cmdOf i = (if (w &&& 0xFF#32).toNat ∈ [0x03, 0x04] then w.extractLsb' 8 8 else 0#8) ∧
      dataOf i =
        (if (w &&& 0xFF#32).toNat ∈ [0x03, 0x04, 0x10, 0x12, 0x14, 0x16, 0x18] then w.extractLsb' 16 16 else 0#16)

/-- R116: the decoder refuses exactly the reserved OP values. -/
def Obligations.ReservedOpsAreExactlyThoseRefused : Prop :=
  ∀ w : Word, decode w = .error (.reservedOp (w.extractLsb' 0 8)) ↔
    (w.toNat % 256 = 0x00 ∨ (0x06 ≤ w.toNat % 256 ∧ w.toNat % 256 ≤ 0x0F) ∨ w.toNat % 256 = 0x1F ∨
      (0x24 ≤ w.toNat % 256 ∧ w.toNat % 256 ≤ 0x2F) ∨ 0x34 ≤ w.toNat % 256)

/-! ### The frame codec -/

/-- R141, R142: SUM8 is the sum of the four octets, as unsigned integers, modulo 256; bit `i` of XOR8 is the exclusive OR
of the four octets' bits `i`. -/
def Obligations.AdditiveChecksumIsSumMod256 : Prop :=
  ∀ b0 b1 b2 b3 : Byte,
    (ck .sum8 b0 b1 b2 b3).toNat = (b0.toNat + b1.toNat + b2.toNat + b3.toNat) % 256 ∧
      ∀ i : Nat, (ck .xor8 b0 b1 b2 b3).getLsbD i =
        ((b0.getLsbD i).xor ((b1.getLsbD i).xor ((b2.getLsbD i).xor (b3.getLsbD i))))

/-- R143, R144: the round trip of the codec, under either algorithm. The spec's own inference, in R145. -/
def Obligations.FrameRoundTrip : Prop :=
  ∀ (alg : ChecksumAlg) (a c : Byte) (d : Data), decodeFrame alg (encodeFrame alg a c d) = ⟨a, c, d, true⟩

/-- R140 to R144: under either algorithm, changing exactly one bit anywhere in a valid frame makes `checksum_valid = 0`.
The spec's own inference, in R146. -/
def Obligations.SingleBitChangeIsDetected : Prop :=
  ∀ (alg : ChecksumAlg) (f : Frame) (i k : Nat), (decodeFrame alg f).valid = true → i < 5 → k < 8 →
    (decodeFrame alg (f.put i (f.get i ^^^ (1#8 <<< k)))).valid = false

/-! ### Launch -/

/-- The step of a host write to a CTRL register runs the operation its word names on the session the address selects,
and then `Settle` for every session in rising order (R11, R37, R96, R221). -/
def Obligations.StepRunsTheDecodedInstruction : Prop :=
  ∀ (s : State) (k : Nat) (a : Addr) (w : Word) (rest : List Input) (i : Instr),
    s.inputs = .host (.write a w) :: rest → k < s.sessions.length → s.sessions.length ≤ 8 → a.toNat / 4 = 16 * k →
      decode w = .ok i →
        step s = thenSettle (exec i { s with inputs := rest, sel := k })

/-- R311: a reserved OP is accepted, completes at once with ILLEGAL_OP and changes only DONE, ERR and LAST_OP. -/
def Obligations.ReservedOpCompletesWithIllegalOp : Prop :=
  ∀ (s : State) (x : Session) (w : Word), Ready s x → decode w = .error (.reservedOp (w.extractLsb' 0 8)) →
    launchWord s.sel w s =
      .next (s.setSession s.sel { x with done := true, err := .illegalOp, lastOp := w.extractLsb' 0 8 })

/-- R313: a CTRL write while BUSY sets OVERRUN and changes nothing else, whatever the word. -/
def Obligations.BusySessionRefusesEveryCommand : Prop :=
  ∀ (s : State) (x : Session) (w : Word), s.sessions[s.sel]? = some x → x.busy = true →
    launchWord s.sel w s = .next (s.setSession s.sel { x with overrun := true })

/-! ### OPEN and CLOSE -/

/-- R172: OPEN on a Closed session whose port exists, is present, free and enabled acquires it. -/
def Obligations.OpenAcquiresThePort : Prop :=
  ∀ (s : State) (x : Session) (q : Port), Ready s x → x.isOpen = false → s.ports[x.portSel.toNat]? = some q →
    q.present = true → q.owned = false → q.enable = true →
      exec .openSession s =
        .next ((s.setSession s.sel
            { x with isOpen := true, connCause := .noCause, done := true, err := .noError, lastOp := 0x01#8 }).setPort
          x.portSel.toNat { q with owned := true, owner := BitVec.ofNat 3 s.sel })

/-- R172: OPEN on an Open session is a no-op that completes with NONE and clears CONN_CAUSE. -/
def Obligations.OpenWhileOpenIsANoOp : Prop :=
  ∀ (s : State) (x : Session), Ready s x → x.isOpen = true →
    exec .openSession s =
      .next (s.setSession s.sel { x with connCause := .noCause, done := true, err := .noError, lastOp := 0x01#8 })

/-- R173, R303: an OPEN that cannot acquire its port ends with CONNECTION and the first cause that applies, absent before
busy before permission; the session stays Closed and no port changes. R281: GENTER outside a scope does the same and enters
no scope. -/
def Obligations.FailedOpenReportsTheFirstCause : Prop :=
  ∀ (s : State) (x : Session) (c : ConnCause), Ready s x → x.isOpen = false →
    connectionCause s.ports x.portSel.toNat = some c →
      exec .openSession s =
          .next (s.setSession s.sel { x with connCause := c, done := true, err := .connection, lastOp := 0x01#8 }) ∧
        (x.guardActive = false → exec .genter s =
          .next (s.setSession s.sel { x with connCause := c, done := true, err := .connection, lastOp := 0x30#8 }))

/-- R174: CLOSE on an Open session releases its port; on a Closed one it is a no-op that still completes. -/
def Obligations.CloseReleasesThePort : Prop :=
  ∀ (s : State) (x : Session), Ready s x →
    (∀ q, x.isOpen = true → s.ports[x.portSel.toNat]? = some q →
      exec .closeSession s =
        .next ((s.setSession s.sel
            { x with isOpen := false, done := true, err := .noError, lastOp := 0x02#8 }).setPort
          x.portSel.toNat { q with owned := false, owner := 0#3 })) ∧
      (x.isOpen = false →
        exec .closeSession s = .next (s.setSession s.sel { x with done := true, err := .noError, lastOp := 0x02#8 }))

/-! ### ENCODE and DECODE -/

/-- R148: ENCODE writes TXF and TX_CK and completes, Open or Closed. -/
def Obligations.EncodeWritesTheFrame : Prop :=
  ∀ (s : State) (x : Session) (cmd : Byte) (data : Data), Ready s x →
    exec (.encode cmd data) s =
      .next (s.setSession s.sel { x with
        txf := ⟨x.devAddr, cmd, data.extractLsb' 8 8, data.extractLsb' 0 8,
          ck s.params.checksumAlg x.devAddr cmd (data.extractLsb' 8 8) (data.extractLsb' 0 8)⟩
        txCk := ck s.params.checksumAlg x.devAddr cmd (data.extractLsb' 8 8) (data.extractLsb' 0 8)
        done := true, err := .noError, lastOp := 0x04#8 })

/-- R149: DECODE writes RESP from CIN whatever the checksum, which CK_VALID alone reports. -/
def Obligations.DecodeReportsTheHostsFrame : Prop :=
  ∀ (s : State) (x : Session), Ready s x →
    exec .decode s =
      .next (s.setSession s.sel { x with
        respAddr := x.cin.b0, respCmd := x.cin.b1, respData := x.cin.b2 ++ x.cin.b3, respOp := 0x05#8
        rxCk := x.cin.b4, expCk := ck s.params.checksumAlg x.cin.b0 x.cin.b1 x.cin.b2 x.cin.b3
        ckValid := decide (x.cin.b4 = ck s.params.checksumAlg x.cin.b0 x.cin.b1 x.cin.b2 x.cin.b3)
        done := true, err := .noError, lastOp := 0x05#8 })

/-! ### SEND and the typed operations -/

/-- R225: SEND on an Open session starts a transaction with any CMD and any DATA; on a Closed one it ends with
NOT_OPEN. -/
def Obligations.SendStartsARawTransaction : Prop :=
  ∀ (s : State) (x : Session) (cmd : Byte) (data : Data), Ready s x →
    (x.isOpen = true → exec (.send cmd data) s =
      .next (s.setSession s.sel (started s.params.checksumAlg (.send cmd data) cmd data x))) ∧
      (x.isOpen = false → exec (.send cmd data) s = .next (s.setSession s.sel (completed (.send cmd data) .notOpen x)))

/-- R226, R228, R230, R232: WRSP, WRLU, WRLI and WRLP with DATA ≤ 1000 start their transaction and send DATA. -/
def Obligations.SetpointAndLimitWritesSendTheirData : Prop :=
  ∀ d : Data, d.toNat ≤ 1000 →
    StartsWire (.wrsp d) .setpointW (fun _ => d) ∧ StartsWire (.wrlu d) .limitUdcW (fun _ => d) ∧
      StartsWire (.wrli d) .limitIdcW (fun _ => d) ∧ StartsWire (.wrlp d) .limitPdcW (fun _ => d)

/-- R234: WRMODE with DATA in {0, 1, 2} starts its transaction and sends DATA. -/
def Obligations.ModeWriteSendsItsData : Prop :=
  ∀ d : Data, d.toNat ∈ [0, 1, 2] → StartsWire (.wrmode d) .modeW (fun _ => d)

/-- R227, R229, R231, R233, R235, R238, R240: the read operations start their transaction and send 0x0000. -/
def Obligations.ReadsSendZero : Prop :=
  StartsWire .rdsp .setpointR (fun _ => 0#16) ∧ StartsWire .rdlu .limitUdcR (fun _ => 0#16) ∧
    StartsWire .rdli .limitIdcR (fun _ => 0#16) ∧ StartsWire .rdlp .limitPdcR (fun _ => 0#16) ∧
    StartsWire .rdmode .modeR (fun _ => 0#16) ∧ StartsWire .rdoper .operationR (fun _ => 0#16) ∧
    StartsWire .rdstat .statusR (fun _ => 0#16)

/-- R241 to R244: the actual-value reads, where the instance has them. -/
def Obligations.ActualValueReadsSendZero : Prop :=
  StartsWire .rdapwr .actPowerR (fun _ => 0#16) ∧ StartsWire .rdavol .actVoltageR (fun _ => 0#16) ∧
    StartsWire .rdacur .actCurrentR (fun _ => 0#16) ∧ StartsWire .rdafrq .actFrequencyR (fun _ => 0#16)

/-- R236, R237: RFON sends 1 and RFOFF sends 0 on the same wire operation. -/
def Obligations.RfSwitchSendsOneOrZero : Prop :=
  StartsWire .rfon .operationW (fun _ => 1#16) ∧ StartsWire .rfoff .operationW (fun _ => 0#16)

/-- R239: RSTERR sends the parameter RESET_ERROR_DATA. -/
def Obligations.ResetErrorSendsTheSentinel : Prop :=
  StartsWire .rsterr .resetError (fun p => p.resetErrorData)

/-- R305: out-of-range DATA ends with VALIDATION, whether or not the session is Open and the operation mapped. -/
def Obligations.OutOfRangeDataIsRefused : Prop :=
  ∀ (s : State) (x : Session) (d : Data),
    (1000 < d.toNat →
      CompletesWith (.wrsp d) .validation s x ∧ CompletesWith (.wrlu d) .validation s x ∧
        CompletesWith (.wrli d) .validation s x ∧ CompletesWith (.wrlp d) .validation s x) ∧
      (2 < d.toNat → CompletesWith (.wrmode d) .validation s x)

/-- R310, R314: a typed operation that passes its check and whose wire operation is unmapped ends with UNSUPPORTED,
Open or Closed. -/
def Obligations.UnmappedOperationIsUnsupported : Prop :=
  ∀ (s : State) (x : Session) (i : Instr) (n : WireName), wireNameOf i = some n → PassesCheck i →
    wireOctet s.params.opcodeMap n = none → CompletesWith i .unsupported s x

/-- R224, R304: a typed operation that passes its check and is mapped ends with NOT_OPEN on a Closed session. -/
def Obligations.ClosedSessionGivesNotOpen : Prop :=
  ∀ (s : State) (x : Session) (i : Instr) (n : WireName) (c : Byte), wireNameOf i = some n → PassesCheck i →
    wireOctet s.params.opcodeMap n = some c → x.isOpen = false → CompletesWith i .notOpen s x

/-! ### The lifecycle guard -/

/-- R281: GENTER outside a scope opens the scope: on a Closed session whose port can be acquired it acquires it, on an
Open one the open is a no-op. -/
def Obligations.GuardEntryOpensTheScope : Prop :=
  ∀ (s : State) (x : Session), Ready s x → x.guardActive = false →
    (∀ q, x.isOpen = false → s.ports[x.portSel.toNat]? = some q → connectionCause s.ports x.portSel.toNat = none →
      exec .genter s =
        .next ((s.setSession s.sel { x with
            isOpen := true, guardActive := true, connCause := .noCause, done := true, err := .noError
            lastOp := 0x30#8 }).setPort
          x.portSel.toNat { q with owned := true, owner := BitVec.ofNat 3 s.sel })) ∧
      (x.isOpen = true →
        exec .genter s =
          .next (s.setSession s.sel { x with
            guardActive := true, connCause := .noCause, done := true, err := .noError, lastOp := 0x30#8 }))

/-- R280, R312: GENTER inside a scope and every exit outside one end with GUARD_STATE and change nothing else. -/
def Obligations.GuardMismatchIsGuardState : Prop :=
  ∀ (s : State) (x : Session),
    (x.guardActive = true → CompletesWith .genter .guardState s x) ∧
      (x.guardActive = false →
        CompletesWith .gexitn .guardState s x ∧ CompletesWith .gexite .guardState s x ∧
          CompletesWith .gexitf .guardState s x)

/-- R282, R283: inside a scope, on an Open session, GEXITN and GEXITE send the RF-disable command, the request RFOFF
sends. -/
def Obligations.GuardExitSendsRfDisable : Prop :=
  ∀ (s : State) (x : Session) (cmd : Byte), Ready s x → x.guardActive = true → x.isOpen = true →
    wireOctet s.params.opcodeMap .operationW = some cmd →
      exec .gexitn s = .next (s.setSession s.sel (started s.params.checksumAlg .gexitn cmd 0#16 x)) ∧
        exec .gexite s = .next (s.setSession s.sel (started s.params.checksumAlg .gexite cmd 0#16 x))

/-- R282, R283, R285, R286: an exit that can send no frame records why in GDIS and ends the scope: NOT_OPEN on a session
closed inside the scope, UNSUPPORTED where the command is unmapped, which comes first (R314). -/
def Obligations.GuardExitWithoutAFrameRecordsWhy : Prop :=
  ∀ (s : State) (x : Session) (i : Instr), i = .gexitn ∨ i = .gexite → Ready s x → x.guardActive = true →
    (∀ q, wireOctet s.params.opcodeMap .operationW = none → x.isOpen = true → s.ports[x.portSel.toNat]? = some q →
      exec i s =
        .next ((s.setSession s.sel { x with
            gdis := some .unsupported, isOpen := false, guardActive := false, done := true, err := .noError
            lastOp := opOf i }).setPort
          x.portSel.toNat { q with owned := false, owner := 0#3 })) ∧
      (x.isOpen = false →
        exec i s =
          .next (s.setSession s.sel { x with
            gdis := some (if wireOctet s.params.opcodeMap .operationW = none then .unsupported else .notOpen)
            guardActive := false, done := true, err := .noError, lastOp := opOf i }))

/-- R284: GEXITF inside a scope skips the attempt and closes directly. -/
def Obligations.FaultExitClosesWithoutAFrame : Prop :=
  ∀ (s : State) (x : Session), Ready s x → x.guardActive = true →
    (∀ q, x.isOpen = true → s.ports[x.portSel.toNat]? = some q →
      exec .gexitf s =
        .next ((s.setSession s.sel { x with
            gdis := none, isOpen := false, guardActive := false, done := true, err := .noError
            lastOp := 0x33#8 }).setPort
          x.portSel.toNat { q with owned := false, owner := 0#3 })) ∧
      (x.isOpen = false →
        exec .gexitf s =
          .next (s.setSession s.sel { x with
            gdis := none, guardActive := false, done := true, err := .noError, lastOp := 0x33#8 }))

/-! ### Completion and the wire -/

/-- R285, R306: when a guard exit's RF-disable transaction ends with any code, the code goes to GDIS, never to ERR; the
port is released, the scope is over and the exit completes with NONE. -/
def Obligations.GuardExitSuppressesTheOutcome : Prop :=
  ∀ (e : Engine) (q : Port) (code : ErrCode), e.ses.phase ≠ .idle → e.ses.lastOp = 0x31#8 ∨ e.ses.lastOp = 0x32#8 →
    e.ses.isOpen = true → e.ports[e.ses.portSel.toNat]? = some q →
      endOp code e =
        { e with
          ses := { e.ses with
            phase := .idle, busy := false, gdis := some code, isOpen := false, guardActive := false
            err := .noError, done := true }
          ports := e.ports.set e.ses.portSel.toNat { q with owned := false, owner := 0#3 } }

/-- R223, R282, R285: five octets collected in the read phase are compared; on a match RESP receives them, else RESP is
unchanged. The outcome, NONE or CHECKSUM_MISMATCH, goes to ERR; at a guard exit it goes to GDIS, the port is released, the
scope is over and ERR is NONE. -/
def Obligations.ReadPhaseEndComparesTheChecksum : Prop :=
  ∀ e : Engine, e.ses.phase = .rx → e.ses.rxcnt = 5#3 →
    (e.ses.lastOp ≠ 0x31#8 → e.ses.lastOp ≠ 0x32#8 →
      (e.ses.rxf.b4 = ck e.params.checksumAlg e.ses.rxf.b0 e.ses.rxf.b1 e.ses.rxf.b2 e.ses.rxf.b3 →
        settle e = { e with ses := { e.ses with
          rxCk := e.ses.rxf.b4, expCk := e.ses.rxf.b4, ckValid := true
          respAddr := e.ses.rxf.b0, respCmd := e.ses.rxf.b1, respData := e.ses.rxf.b2 ++ e.ses.rxf.b3
          respOp := e.ses.lastOp
          phase := .idle, busy := false, err := .noError, done := true } }) ∧
        (e.ses.rxf.b4 ≠ ck e.params.checksumAlg e.ses.rxf.b0 e.ses.rxf.b1 e.ses.rxf.b2 e.ses.rxf.b3 →
          settle e = { e with ses := { e.ses with
            rxCk := e.ses.rxf.b4
            expCk := ck e.params.checksumAlg e.ses.rxf.b0 e.ses.rxf.b1 e.ses.rxf.b2 e.ses.rxf.b3
            ckValid := false
            phase := .idle, busy := false, err := .checksumMismatch, done := true } })) ∧
      ∀ q : Port, e.ses.lastOp = 0x31#8 ∨ e.ses.lastOp = 0x32#8 → e.ses.isOpen = true →
        e.ports[e.ses.portSel.toNat]? = some q →
          (e.ses.rxf.b4 = ck e.params.checksumAlg e.ses.rxf.b0 e.ses.rxf.b1 e.ses.rxf.b2 e.ses.rxf.b3 →
            settle e = { e with
              ses := { e.ses with
                rxCk := e.ses.rxf.b4, expCk := e.ses.rxf.b4, ckValid := true
                respAddr := e.ses.rxf.b0, respCmd := e.ses.rxf.b1, respData := e.ses.rxf.b2 ++ e.ses.rxf.b3
                respOp := e.ses.lastOp
                gdis := some .noError, isOpen := false, guardActive := false
                phase := .idle, busy := false, err := .noError, done := true }
              ports := e.ports.set e.ses.portSel.toNat { q with owned := false, owner := 0#3 } }) ∧
            (e.ses.rxf.b4 ≠ ck e.params.checksumAlg e.ses.rxf.b0 e.ses.rxf.b1 e.ses.rxf.b2 e.ses.rxf.b3 →
              settle e = { e with
                ses := { e.ses with
                  rxCk := e.ses.rxf.b4
                  expCk := ck e.params.checksumAlg e.ses.rxf.b0 e.ses.rxf.b1 e.ses.rxf.b2 e.ses.rxf.b3
                  ckValid := false
                  gdis := some .checksumMismatch, isOpen := false, guardActive := false
                  phase := .idle, busy := false, err := .noError, done := true }
                ports := e.ports.set e.ses.portSel.toNat { q with owned := false, owner := 0#3 } })

/-- R188: one pass of `Settle` is enough: after it, no condition of `Settle` holds until the next event (the spec's own
inference there). -/
def Obligations.SettleIsIdempotent : Prop :=
  ∀ e : Engine, settle (settle e) = settle e

/-- R185, R187, R189, R282: under the invariant, the tick that brings CNT to the phase's timeout ends the phase, with
WRITE_TIMEOUT in phase TX and READ_TIMEOUT in phase RX, the octets collected and RESP as they were. The code goes to ERR;
at a guard exit it goes to GDIS, the port is released, the scope is over and ERR is NONE. -/
def Obligations.TickEndsAPhaseByTimeout : Prop :=
  ∀ (s t : State) (k : Nat) (x : Session) (rest : List Input), s.Inv → s.inputs = .tick :: rest →
    s.sessions[k]? = some x → step s = .next t →
      (x.lastOp ≠ 0x31#8 → x.lastOp ≠ 0x32#8 →
        (x.phase = .tx → x.cnt.toNat + 1 = x.wrT.toNat →
          t.sessions[k]? = some { x with
            cnt := x.cnt + 1#16, phase := .idle, busy := false, err := .writeTimeout, done := true }) ∧
          (x.phase = .rx → x.cnt.toNat + 1 = x.rdT.toNat →
            t.sessions[k]? = some { x with
              cnt := x.cnt + 1#16, phase := .idle, busy := false, err := .readTimeout, done := true })) ∧
        ∀ q : Port, x.lastOp = 0x31#8 ∨ x.lastOp = 0x32#8 → s.ports[x.portSel.toNat]? = some q →
          (x.phase = .tx → x.cnt.toNat + 1 = x.wrT.toNat →
            t.sessions[k]? = some { x with
                cnt := x.cnt + 1#16, phase := .idle, busy := false, gdis := some .writeTimeout
                isOpen := false, guardActive := false, err := .noError, done := true } ∧
              t.ports[x.portSel.toNat]? = some { q with owned := false, owner := 0#3 }) ∧
            (x.phase = .rx → x.cnt.toNat + 1 = x.rdT.toNat →
              t.sessions[k]? = some { x with
                  cnt := x.cnt + 1#16, phase := .idle, busy := false, gdis := some .readTimeout
                  isOpen := false, guardActive := false, err := .noError, done := true } ∧
                t.ports[x.portSel.toNat]? = some { q with owned := false, owner := 0#3 })

/-- R180, R181: a character on a port that a session holds goes to that session: with a framing error it sets RX_FERR;
inside the collection window it is collected at RXF[RXCNT]; else it sets RX_DROP. No other session, no port and no
output changes. On a port no session holds it is dropped without a flag. -/
def Obligations.ReceivedCharacterGoesToTheHolder : Prop :=
  ∀ (s : State) (p : Nat) (b : Byte) (ferr : Bool) (q : Port), s.ports[p]? = some q →
    (q.owned = false → rxCharEvent p b ferr s = .next s) ∧
      (∀ x, q.owned = true → s.sessions[q.owner.toNat]? = some x →
        rxCharEvent p b ferr s = .next (s.setSession q.owner.toNat
          (if ferr = true then { x with rxFerr := true }
          else if x.phase ≠ .idle ∧ x.rxcnt.toNat < 5 then
            { x with rxf := x.rxf.put x.rxcnt.toNat b, rxcnt := x.rxcnt + 1#3 }
          else { x with rxDrop := true })))

/-- R182: TxDone makes the transmitter idle, and counts an octet sent only for a holder in phase TX that has loaded more
than it sent. -/
def Obligations.TransmitCompletionCountsOwnOctets : Prop :=
  ∀ (s : State) (p : Nat) (q : Port), s.ports[p]? = some q → q.txBusy = true →
    (q.owned = false → txDoneEvent p s = .next (s.setPort p { q with txBusy := false })) ∧
      (∀ x, q.owned = true → s.sessions[q.owner.toNat]? = some x →
        txDoneEvent p s = .next ((s.setPort p { q with txBusy := false }).setSession q.owner.toNat
          (if x.phase = .tx ∧ x.txSent.toNat < x.txLoaded.toNat then { x with txSent := x.txSent + 1#3 } else x)))

/-- R184: a tick counts for every session that is not IDLE, saturating at 0xFFFF, and changes no other session. Beside the
sessions it changes the divider alone: that a Tick starts the divider anew, from any value, is the model's own choice (log
12), no rule of the spec. -/
def Obligations.TickCountsBusySessions : Prop :=
  ∀ s : State,
    (∀ (k : Nat) (x : Session), s.sessions[k]? = some x →
      (x.phase = .idle → (tickEvent s).sessions[k]? = some x) ∧
        (x.phase ≠ .idle → (tickEvent s).sessions[k]? =
          some { x with cnt := BitVec.ofNat 16 (min (x.cnt.toNat + 1) 0xFFFF) })) ∧
      tickEvent s = { s with sessions := (tickEvent s).sessions, tickDiv := 0 }

/-- R178: under the invariant, a Present event writes the port's PRESENT input and nothing else changes, held port or
not (R176). -/
def Obligations.PresenceChangesNothingElse : Prop :=
  ∀ (s : State) (p : Nat) (v : Bool) (q : Port) (rest : List Input), s.Inv → s.inputs = .present p v :: rest →
    s.ports[p]? = some q → step s = .next ({ s with inputs := rest }.setPort p { q with present := v })

/-- R318: from a divider at 0, CLK_HZ/1000 edges of `clk` are one Tick. A bare clock edge as an event is the model's own
(log 12). -/
def Obligations.ClockPeriodIsOneTick : Prop :=
  ∀ s : State, s.tickDiv = 0 → 0 < s.params.clkHz / 1000 →
    after s (List.replicate (s.params.clkHz / 1000) .clk) = after s [.tick]

/-! ### Reset -/

/-- R350, R351: what the registers read after a Reset event, from any state: every session register and every port is at
its reset value; PRESENT is kept. -/
def Obligations.ResetSetsEveryRegister : Prop :=
  ∀ (s : State) (rest : List Input) (during : Option BusAccess), s.inputs = .reset during :: rest →
    ∃ t, step s = .next t ∧ t.params = s.params ∧ t.inputs = rest ∧ t.tickDiv = 0 ∧ t.irq = false ∧
      t.sessions.length = s.sessions.length ∧ readGlobalReg t .id = readGlobalReg s .id ∧
      (∀ (k : Nat) (x : Session), t.sessions[k]? = some x →
        readSessionReg x .stat = 0x00F00000#32 ∧ readSessionReg x .ie = 0#32 ∧
          readSessionReg x .cfg = BitVec.ofNat 32 (k % s.ports.length % 8 * 256) ∧
          readSessionReg x .tmo = 0x03E803E8#32 ∧
          ∀ r ∈ [SessionReg.resp, .cksum, .txf0, .txf1, .rxf0, .rxf1, .cin0, .cin1, .sdec, .diag],
            readSessionReg x r = 0#32) ∧
      t.ports = s.ports.map fun q => ⟨false, 0#3, true, false, 0#8, q.present⟩

/-- R354: a host access while `rst` is high is ignored: the Reset step leaves what it leaves without the access, but
that a read returns 0. -/
def Obligations.AccessDuringResetIsIgnored : Prop :=
  ∀ (s : State) (a : Addr) (v : Word),
    resetEvent (some (.write a v)) s = resetEvent none s ∧
      resetEvent (some (.read a)) s = { resetEvent none s with trace := s.trace ++ [.readData a 0#32] }

/-! ### The register space -/

/-- R94, R98: under the invariant, a host read shows the register's value and changes nothing else. -/
def Obligations.ReadsChangeNoState : Prop :=
  ∀ (s : State) (a : Addr) (rest : List Input), s.Inv → s.inputs = .host (.read a) :: rest →
    step s = .next { s with inputs := rest, trace := s.trace ++ [.readData a (readReg s a)] }

/-- R36, R70: an address that no register has reads 0 and ignores writes: word offset 15 of a session block, the block
of a session that does not exist, the global block past IRQ_STAT, and everything from 0x440. -/
def Obligations.UnusedAddressesReadZeroAndIgnoreWrites : Prop :=
  ∀ (s : State) (a : Addr) (v : Word),
    (a.toNat < 0x400 ∧ (s.sessions.length ≤ a.toNat / 64 ∨ a.toNat / 4 % 16 = 15)) ∨ 0x414 ≤ a.toNat →
      readReg s a = 0#32 ∧ hostWrite a v s = .next s

/-- R96: address bits [1:0] are ignored, and no access faults. -/
def Obligations.LowAddressBitsAreIgnored : Prop :=
  ∀ (s : State) (a b : Addr) (v : Word), a.toNat / 4 = b.toNat / 4 →
    readReg s a = readReg s b ∧ hostWrite a v s = hostWrite b v s ∧ ∃ t, hostWrite a v s = .next t

/-- R39: a write to STAT clears DONE, RX_DROP, RX_FERR and OVERRUN where its bits 2, 10, 11 and 12 are 1, and changes
nothing else. -/
def Obligations.StatWriteClearsTheChosenFlags : Prop :=
  ∀ (s : State) (k : Nat) (x : Session) (v : Word), s.sessions[k]? = some x → k < 8 →
    hostWrite (BitVec.ofNat 11 (0x40 * k + 0x04)) v s =
      .next (s.setSession k { x with
        done := if v.getLsbD 2 then false else x.done
        rxDrop := if v.getLsbD 10 then false else x.rxDrop
        rxFerr := if v.getLsbD 11 then false else x.rxFerr
        overrun := if v.getLsbD 12 then false else x.overrun })

/-- R41 to R43: a write to CFG or TMO is ignored while Open; while Closed CFG stores DEV_ADDR and PORT_SEL as written,
and TMO stores each timeout as written, but 1 for 0. -/
def Obligations.ConfigurationIsFrozenWhileOpen : Prop :=
  ∀ (s : State) (k : Nat) (x : Session) (v : Word), s.sessions[k]? = some x → k < 8 →
    hostWrite (BitVec.ofNat 11 (0x40 * k + 0x0C)) v s =
        .next (if x.isOpen = true then s
          else s.setSession k { x with devAddr := v.extractLsb' 0 8, portSel := v.extractLsb' 8 3 }) ∧
      hostWrite (BitVec.ofNat 11 (0x40 * k + 0x10)) v s =
        .next (if x.isOpen = true then s
          else s.setSession k { x with
            wrT := BitVec.ofNat 16 (max 1 (v.toNat % 65536)), rdT := BitVec.ofNat 16 (max 1 (v.toNat / 65536)) })

/-- R40, R48: IE and CIN are writable at any time, while BUSY too; their other bits are ignored. -/
def Obligations.EnableAndHostFrameAreAlwaysWritable : Prop :=
  ∀ (s : State) (k : Nat) (x : Session) (v : Word), s.sessions[k]? = some x → k < 8 →
    hostWrite (BitVec.ofNat 11 (0x40 * k + 0x08)) v s = .next (s.setSession k { x with doneIe := v.getLsbD 0 }) ∧
      hostWrite (BitVec.ofNat 11 (0x40 * k + 0x2C)) v s =
        .next (s.setSession k { x with cin :=
          ⟨v.extractLsb' 0 8, v.extractLsb' 8 8, v.extractLsb' 16 8, v.extractLsb' 24 8, x.cin.b4⟩ }) ∧
      hostWrite (BitVec.ofNat 11 (0x40 * k + 0x30)) v s =
        .next (s.setSession k { x with cin := ⟨x.cin.b0, x.cin.b1, x.cin.b2, x.cin.b3, v.extractLsb' 0 8⟩ })

/-- R38, R54: the fields of STAT as a read at 0x40*k + 0x04 returns them; ERR and GDIS by the numbers of R301 (0xF: not
attempted), PHASE by those of R33; COMM_FAULT reads 1 exactly for the codes 4, 5 and 6. -/
def Obligations.StatShowsTheSessionsFields : Prop :=
  ∀ (s : State) (k : Nat) (x : Session) (r : Word), s.sessions[k]? = some x → k < 8 →
    r = readReg s (BitVec.ofNat 11 (0x40 * k + 0x04)) →
      r.getLsbD 0 = x.isOpen ∧ r.getLsbD 1 = x.busy ∧ r.getLsbD 2 = x.done ∧
        (r.getLsbD 3 = true ↔ (r.extractLsb' 4 4).toNat ∈ [4, 5, 6]) ∧
        (∀ (c : ErrCode) (n : Nat),
          (c, n) ∈ [(.noError, 0), (.connection, 1), (.notOpen, 2), (.validation, 3), (.writeTimeout, 4),
            (.readTimeout, 5), (.checksumMismatch, 6), (.unsupported, 7), (.illegalOp, 8), (.guardState, 9)] →
          (x.err = c → (r.extractLsb' 4 4).toNat = n) ∧ (x.gdis = some c → (r.extractLsb' 20 4).toNat = n)) ∧
        (x.gdis = none → (r.extractLsb' 20 4).toNat = 0xF) ∧
        r.getLsbD 8 = x.guardActive ∧ r.getLsbD 9 = x.ckValid ∧ r.getLsbD 10 = x.rxDrop ∧ r.getLsbD 11 = x.rxFerr ∧
        r.getLsbD 12 = x.overrun ∧
        (∀ (c : Phase) (n : Nat), (c, n) ∈ [(.idle, 0), (.tx, 1), (.rx, 2)] →
          x.phase = c → (r.extractLsb' 13 2).toNat = n) ∧
        r.getLsbD 15 = false ∧ r.extractLsb' 16 3 = x.rxcnt ∧ r.getLsbD 19 = false ∧ r.extractLsb' 24 8 = x.lastOp

/-- R251: the fields of SDEC for every status word; R49: a read at 0x40*k + 0x34 returns them for RESP_DATA. -/
def Obligations.StatusViewPacksTheStatusWord : Prop :=
  (∀ d : Data,
    (statusView d).extractLsb' 16 16 = d ∧ (statusView d).extractLsb' 12 4 = 0#4 ∧
      (statusView d).getLsbD 0 = d.getLsbD 0 ∧ (statusView d).getLsbD 1 = d.getLsbD 1 ∧
      ((statusView d).extractLsb' 2 2).toNat = min (d.toNat / 32 % 8) 3 ∧
      ((statusView d).extractLsb' 4 4).toNat = (if d.toNat / 256 % 8 ≤ 5 then d.toNat / 256 % 8 else 15) ∧
      (statusView d).getLsbD 8 = d.getLsbD 11 ∧ (statusView d).getLsbD 9 = d.getLsbD 12 ∧
      (statusView d).getLsbD 10 = d.getLsbD 14 ∧ (statusView d).getLsbD 11 = d.getLsbD 15) ∧
    ∀ (s : State) (k : Nat) (x : Session), s.sessions[k]? = some x → k < 8 →
      readReg s (BitVec.ofNat 11 (0x40 * k + 0x34)) = statusView x.respData

/-- R71 to R74: what reads at 0x400, 0x404, 0x408 and 0x40C return: ID shows the instance, the others each port's fields,
and 0 for a port that does not exist; a write to 0x404 writes each port's ENABLE and nothing else, and a write to a
read-only global register (R95) is ignored. -/
def Obligations.GlobalRegistersShowThePorts : Prop :=
  ∀ s : State, s.sessions.length ≤ 8 → s.ports.length ≤ 8 →
    (readReg s 0x400#11).extractLsb' 0 4 = BitVec.ofNat 4 s.sessions.length ∧
      (readReg s 0x400#11).extractLsb' 4 4 = BitVec.ofNat 4 s.ports.length ∧
      ((readReg s 0x400#11).getLsbD 8 = true ↔ s.params.checksumAlg = .xor8) ∧
      (readReg s 0x400#11).extractLsb' 9 7 = 0#7 ∧ (readReg s 0x400#11).extractLsb' 16 8 = s.params.opmapId ∧
      (readReg s 0x400#11).extractLsb' 24 8 = 0x01#8 ∧
      (∀ (p : Nat) (q : Port), s.ports[p]? = some q →
        (readReg s 0x404#11).getLsbD p = q.enable ∧
          (readReg s 0x408#11).extractLsb' (4 * p) 4 = (if q.owned = true then 8#4 + q.owner.zeroExtend 4 else 0#4) ∧
          (readReg s 0x40C#11).getLsbD p = q.present ∧ (readReg s 0x40C#11).getLsbD (8 + p) = q.txBusy) ∧
      (∀ p : Nat, s.ports.length ≤ p →
        (readReg s 0x404#11).getLsbD p = false ∧ (readReg s 0x408#11).extractLsb' (4 * p) 4 = 0#4 ∧
          (p < 8 → (readReg s 0x40C#11).getLsbD p = false) ∧ (readReg s 0x40C#11).getLsbD (8 + p) = false) ∧
      (∀ a ∈ [0x400#11, 0x408#11, 0x40C#11, 0x410#11], ∀ v : Word, hostWrite a v s = .next s) ∧
      ∀ v : Word, ∃ t, hostWrite 0x404#11 v s = .next t ∧ t = { s with ports := t.ports } ∧
        t.ports.length = s.ports.length ∧
        ∀ (p : Nat) (q : Port), s.ports[p]? = some q → t.ports[p]? = some { q with enable := v.getLsbD p }

/-- R75, R315: IRQ_STAT, read at 0x410, shows each session's interrupt term, and `irq` is high exactly when some session
has DONE and DONE_IE. -/
def Obligations.InterruptFollowsDoneAndEnable : Prop :=
  ∀ s : State,
    (s.irq = true ↔ ∃ (k : Nat) (x : Session), s.sessions[k]? = some x ∧ x.done = true ∧ x.doneIe = true) ∧
      (∀ (k : Nat) (x : Session), s.sessions.length ≤ 8 → s.sessions[k]? = some x →
        (readReg s 0x410#11).getLsbD k = (x.done && x.doneIe)) ∧
      ∀ k : Nat, s.sessions.length ≤ k → (readReg s 0x410#11).getLsbD k = false

/-! ### Whole-machine rules -/

/-- The reset state meets the invariant (R35, R351), with the counts and inputs log 5 and log 8 choose. -/
def Obligations.ResetStateMeetsTheInvariant : Prop := State.reset.Inv

/-- Every step keeps the invariant: the spec's own inference, in R35, from the rules that write the fields. -/
def Obligations.StepKeepsTheInvariant : Prop :=
  ∀ s t : State, s.Inv → step s = .next t → t.Inv

/-- R32: no event writes the parameters, and the numbers of sessions and ports never change. -/
def Obligations.ParametersNeverChange : Prop :=
  ∀ s t : State, step s = .next t →
    t.params = s.params ∧ t.sessions.length = s.sessions.length ∧ t.ports.length = s.ports.length

/-- R105, the spec's own inference from R92 and R170: under the invariant, a step whose event is a host write to a
register of session `k` changes no other session's record, and a character, a transmit completion or a presence change
on port `p` changes no session that does not hold `p`. -/
def Obligations.SessionsDoNotInterfere : Prop :=
  ∀ (s t : State) (i : Input) (rest : List Input), s.Inv → s.inputs = i :: rest → step s = .next t →
    (∀ (a : Addr) (v : Word) (k j : Nat) (r : SessionReg), i = .host (.write a v) →
      selectReg s.sessions.length a = .session k r → j ≠ k → t.sessions[j]? = s.sessions[j]?) ∧
      ∀ (p j : Nat) (y : Session), (∃ b f, i = .rxChar p b f) ∨ i = .txDone p ∨ (∃ v, i = .present p v) →
        s.sessions[j]? = some y → ¬(y.isOpen = true ∧ y.portSel.toNat = p) → t.sessions[j]? = some y

/-- R171: what changes OPEN. A Closed session becomes Open only in the step of a CTRL write to it of OPEN or GENTER; an
Open one becomes Closed only in the step of a CTRL write to it of CLOSE or a guard exit, at the end of a GEXITN or GEXITE
in progress, or by Reset. -/
def Obligations.OnlyOpenAndCloseChangeOpen : Prop :=
  ∀ (s t : State) (k : Nat) (x y : Session) (i : Input) (rest : List Input), s.Inv → s.inputs = i :: rest →
    step s = .next t → s.sessions[k]? = some x → t.sessions[k]? = some y →
      (x.isOpen = false → y.isOpen = true →
        ∃ a w, i = .host (.write a w) ∧ a.toNat / 4 = 16 * k ∧ w.toNat % 256 ∈ [0x01, 0x30]) ∧
        (x.isOpen = true → y.isOpen = false →
          (∃ during, i = .reset during) ∨ (x.busy = true ∧ (x.lastOp = 0x31#8 ∨ x.lastOp = 0x32#8)) ∨
            ∃ a w, i = .host (.write a w) ∧ a.toNat / 4 = 16 * k ∧ w.toNat % 256 ∈ [0x02, 0x31, 0x32, 0x33])

/-- R185, R188, and the spec's own inference R322: every transaction ends within WR_T + RD_T ticks of its launch,
whatever else happens: of any events that hold so many ticks and that the block can take, some first part leaves the
session no longer BUSY. -/
def Obligations.EveryTransactionEndsInTime : Prop :=
  ∀ (s t : State) (k : Nat) (x : Session) (es : List Input), s.Inv → s.sessions[k]? = some x → x.busy = true →
    x.wrT.toNat + x.rdT.toNat ≤ es.count .tick → after s es = .next t →
      ∃ (n : Nat) (u : State) (y : Session), n ≤ es.length ∧ after s (es.take n) = .next u ∧
        u.sessions[k]? = some y ∧ y.busy = false

/-- R220, R222, R223, R183, under the invariant. The step of a CTRL write that starts a transaction loads and emits octet 0
where the port's transmitter is idle, and loads nothing where it is busy. From a transaction whose first octet is in its
port's transmitter, five transmit completions and then five good characters, in that order, end it, with the request's
other octets sent in order and the response judged by its checksum alone; this part is for an operation that is no guard
exit. R376 (the spec's own inference) says that a successful transaction needs at least these ten events; that they
suffice follows from the rules named first. -/
def Obligations.TransactionCompletesInTenEvents : Prop :=
  ∀ (s : State) (k : Nat) (x : Session), s.Inv → s.sessions[k]? = some x →
    (∀ (a : Addr) (w : Word) (rest : List Input) (i : Instr) (u : State) (y : Session) (q : Port),
      s.inputs = .host (.write a w) :: rest → a.toNat / 4 = 16 * k → decode w = .ok i → x.busy = false →
        exec i { s with inputs := rest, sel := k } = .next u → u.sessions[k]? = some y → y.phase = .tx →
        s.ports[x.portSel.toNat]? = some q →
          (q.txBusy = false → step s = .next
            { (u.setSession k { y with txLoaded := 1#3 }).setPort x.portSel.toNat
                { q with txBusy := true, txByte := y.txf.b0 } with
              trace := s.trace ++ [.txChar x.portSel.toNat y.txf.b0] }) ∧
            (q.txBusy = true → step s = .next u)) ∧
      ∀ b0 b1 b2 b3 b4 : Byte,
        x.phase = .tx → x.txLoaded = 1#3 → x.txSent = 0#3 → x.rxcnt = 0#3 → x.lastOp ≠ 0x31#8 → x.lastOp ≠ 0x32#8 →
          ∃ (t : State) (y : Session),
            after s (List.replicate 5 (.txDone x.portSel.toNat) ++
              [b0, b1, b2, b3, b4].map fun b => .rxChar x.portSel.toNat b false) = .next t ∧
            t.sessions[k]? = some y ∧ y.busy = false ∧ y.done = true ∧ y.rxf = ⟨b0, b1, b2, b3, b4⟩ ∧
            t.trace = s.trace ++ [x.txf.b1, x.txf.b2, x.txf.b3, x.txf.b4].map (.txChar x.portSel.toNat) ∧
            (if b4 = ck s.params.checksumAlg b0 b1 b2 b3 then
              y.err = .noError ∧ y.respAddr = b0 ∧ y.respCmd = b1 ∧ y.respData = b2 ++ b3 ∧ y.respOp = x.lastOp
            else y.err = .checksumMismatch ∧ y.respAddr = x.respAddr ∧ y.respCmd = x.respCmd ∧
              y.respData = x.respData ∧ y.respOp = x.respOp)

/-! ### The other registers of a session -/

/-- R36, R37, R40, R41, R43 to R48, R50: what a read of every session register but STAT and SDEC returns, at its offset;
CONN_CAUSE by the numbers of R33. Bits no field has read 0. R95: a write to a read-only register is ignored. -/
def Obligations.SessionRegistersShowTheirFields : Prop :=
  ∀ (s : State) (k : Nat) (x : Session) (r : Nat → Word), s.sessions[k]? = some x → k < 8 →
    (∀ off, r off = readReg s (BitVec.ofNat 11 (0x40 * k + off))) →
      r 0x00 = 0#32 ∧ (r 0x08).getLsbD 0 = x.doneIe ∧ (r 0x08).extractLsb' 1 31 = 0#31 ∧
        (r 0x0C).extractLsb' 0 8 = x.devAddr ∧ (r 0x0C).extractLsb' 8 3 = x.portSel ∧
        (r 0x0C).extractLsb' 11 21 = 0#21 ∧
        (r 0x10).extractLsb' 0 16 = x.wrT ∧ (r 0x10).extractLsb' 16 16 = x.rdT ∧
        (r 0x14).extractLsb' 0 8 = x.respAddr ∧ (r 0x14).extractLsb' 8 8 = x.respCmd ∧
        (r 0x14).extractLsb' 16 16 = x.respData ∧
        (r 0x18).extractLsb' 0 8 = x.rxCk ∧ (r 0x18).extractLsb' 8 8 = x.expCk ∧
        (r 0x18).extractLsb' 16 8 = x.txCk ∧ (r 0x18).extractLsb' 24 8 = x.respOp ∧
        (∀ (off : Nat) (f : Frame), (off, f) ∈ [(0x1C, x.txf), (0x24, x.rxf), (0x2C, x.cin)] →
          (r off).extractLsb' 0 8 = f.b0 ∧ (r off).extractLsb' 8 8 = f.b1 ∧ (r off).extractLsb' 16 8 = f.b2 ∧
            (r off).extractLsb' 24 8 = f.b3 ∧ r (off + 4) = f.b4.zeroExtend 32) ∧
        (∀ (c : ConnCause) (n : Nat), (c, n) ∈ [(.noCause, 0), (.absent, 1), (.busy, 2), (.permission, 3)] →
          x.connCause = c → ((r 0x38).extractLsb' 0 2).toNat = n) ∧
        (r 0x38).extractLsb' 2 2 = 0#2 ∧ (r 0x38).extractLsb' 4 3 = x.txLoaded ∧ (r 0x38).getLsbD 7 = false ∧
        (r 0x38).extractLsb' 8 3 = x.txSent ∧ (r 0x38).extractLsb' 11 5 = 0#5 ∧ (r 0x38).extractLsb' 16 16 = x.cnt ∧
        ∀ off ∈ [0x14, 0x18, 0x1C, 0x20, 0x24, 0x28, 0x34, 0x38], ∀ v : Word,
          hostWrite (BitVec.ofNat 11 (0x40 * k + off)) v s = .next s
end

