-- ==== Sys2Proof/Laws/State.lean ====
section
/-! SUPPORT. The small lemmas of the state's updates: one per field per update, and what replacing one record leaves of
the lists. -/

namespace Sys2Proof.Machine

/-! ### Putting an engine's work back -/

@[simp] theorem State.engine_idx (s : State) (k : Nat) (x : Session) : (s.engine k x).idx = k := rfl
@[simp] theorem State.engine_params (s : State) (k : Nat) (x : Session) : (s.engine k x).params = s.params := rfl
@[simp] theorem State.engine_ses (s : State) (k : Nat) (x : Session) : (s.engine k x).ses = x := rfl
@[simp] theorem State.engine_ports (s : State) (k : Nat) (x : Session) : (s.engine k x).ports = s.ports := rfl
@[simp] theorem State.engine_trace (s : State) (k : Nat) (x : Session) : (s.engine k x).trace = s.trace := rfl

@[simp] theorem State.withEngine_sessions (s : State) (k : Nat) (e : Engine) :
    (s.withEngine k e).sessions = s.sessions.set k e.ses := rfl
@[simp] theorem State.withEngine_ports (s : State) (k : Nat) (e : Engine) : (s.withEngine k e).ports = e.ports := rfl
@[simp] theorem State.withEngine_trace (s : State) (k : Nat) (e : Engine) : (s.withEngine k e).trace = e.trace := rfl
@[simp] theorem State.withEngine_params (s : State) (k : Nat) (e : Engine) : (s.withEngine k e).params = s.params := rfl
@[simp] theorem State.withEngine_tickDiv (s : State) (k : Nat) (e : Engine) : (s.withEngine k e).tickDiv = s.tickDiv := rfl
@[simp] theorem State.withEngine_sel (s : State) (k : Nat) (e : Engine) : (s.withEngine k e).sel = s.sel := rfl
@[simp] theorem State.withEngine_inputs (s : State) (k : Nat) (e : Engine) : (s.withEngine k e).inputs = s.inputs := rfl

/-! ### Replacing one record -/

@[simp] theorem State.setSession_sessions (s : State) (k : Nat) (x : Session) :
    (s.setSession k x).sessions = s.sessions.set k x := rfl
@[simp] theorem State.setSession_ports (s : State) (k : Nat) (x : Session) : (s.setSession k x).ports = s.ports := rfl
@[simp] theorem State.setSession_trace (s : State) (k : Nat) (x : Session) : (s.setSession k x).trace = s.trace := rfl
@[simp] theorem State.setSession_params (s : State) (k : Nat) (x : Session) : (s.setSession k x).params = s.params := rfl
@[simp] theorem State.setSession_tickDiv (s : State) (k : Nat) (x : Session) : (s.setSession k x).tickDiv = s.tickDiv := rfl
@[simp] theorem State.setSession_sel (s : State) (k : Nat) (x : Session) : (s.setSession k x).sel = s.sel := rfl
@[simp] theorem State.setSession_inputs (s : State) (k : Nat) (x : Session) : (s.setSession k x).inputs = s.inputs := rfl

@[simp] theorem State.setPort_sessions (s : State) (p : Nat) (q : Port) : (s.setPort p q).sessions = s.sessions := rfl
@[simp] theorem State.setPort_ports (s : State) (p : Nat) (q : Port) : (s.setPort p q).ports = s.ports.set p q := rfl
@[simp] theorem State.setPort_trace (s : State) (p : Nat) (q : Port) : (s.setPort p q).trace = s.trace := rfl
@[simp] theorem State.setPort_params (s : State) (p : Nat) (q : Port) : (s.setPort p q).params = s.params := rfl
@[simp] theorem State.setPort_tickDiv (s : State) (p : Nat) (q : Port) : (s.setPort p q).tickDiv = s.tickDiv := rfl
@[simp] theorem State.setPort_sel (s : State) (p : Nat) (q : Port) : (s.setPort p q).sel = s.sel := rfl
@[simp] theorem State.setPort_inputs (s : State) (p : Nat) (q : Port) : (s.setPort p q).inputs = s.inputs := rfl

@[simp] theorem State.txIdle_sessions (s : State) (p : Nat) : (s.txIdle p).sessions = s.sessions := rfl
@[simp] theorem State.txIdle_ports (s : State) (p : Nat) :
    (s.txIdle p).ports = s.ports.modify p fun q => { q with txBusy := false } := rfl
@[simp] theorem State.txIdle_trace (s : State) (p : Nat) : (s.txIdle p).trace = s.trace := rfl
@[simp] theorem State.txIdle_params (s : State) (p : Nat) : (s.txIdle p).params = s.params := rfl
@[simp] theorem State.txIdle_tickDiv (s : State) (p : Nat) : (s.txIdle p).tickDiv = s.tickDiv := rfl
@[simp] theorem State.txIdle_sel (s : State) (p : Nat) : (s.txIdle p).sel = s.sel := rfl
@[simp] theorem State.txIdle_inputs (s : State) (p : Nat) : (s.txIdle p).inputs = s.inputs := rfl

/-! ### Writing a port from an engine -/

@[simp] theorem Engine.modPort_idx (e : Engine) (p : Nat) (f : Port → Port) : (e.modPort p f).idx = e.idx := rfl
@[simp] theorem Engine.modPort_params (e : Engine) (p : Nat) (f : Port → Port) : (e.modPort p f).params = e.params := rfl
@[simp] theorem Engine.modPort_ses (e : Engine) (p : Nat) (f : Port → Port) : (e.modPort p f).ses = e.ses := rfl
@[simp] theorem Engine.modPort_ports (e : Engine) (p : Nat) (f : Port → Port) :
    (e.modPort p f).ports = e.ports.modify p f := rfl
@[simp] theorem Engine.modPort_trace (e : Engine) (p : Nat) (f : Port → Port) : (e.modPort p f).trace = e.trace := rfl

/-! ### Lists of records -/

/-- Modifying an entry that is there is replacing it. -/
theorem modify_eq_set {α : Type} (l : List α) (p : Nat) (a : α) (f : α → α) (h : l[p]? = some a) :
    l.modify p f = l.set p (f a) := by
  apply List.ext_getElem?
  intro i
  rcases eq_or_ne p i with rfl | hne
  · have hlt : p < l.length := (List.getElem?_eq_some_iff.mp h).1
    have ha : l[p] = a := Option.some.inj ((List.getElem?_eq_getElem hlt).symm.trans h)
    simp [hlt, ha]
  · simp [hne]

/-- Putting back the record that is there changes nothing. -/
theorem set_getElem?_self {α : Type} (l : List α) (k : Nat) (a : α) (h : l[k]? = some a) : l.set k a = l := by
  apply List.ext_getElem?
  intro i
  rcases eq_or_ne k i with rfl | hne
  · have hlt : k < l.length := (List.getElem?_eq_some_iff.mp h).1
    have ha : l[k] = a := Option.some.inj ((List.getElem?_eq_getElem hlt).symm.trans h)
    simp [hlt, ha]
  · simp [hne]

/-! ### Running a session's engine -/

/-- What running a procedure of session `k` gives, where the session exists. -/
theorem State.onSession_some (k : Nat) (f : Engine → Engine) (s : State) (x : Session) (h : s.sessions[k]? = some x) :
    s.onSession k f = s.withEngine k (f (s.engine k x)) := by
  simp [State.onSession, h]

/-- Where there is no session `k`, nothing happens (R36). -/
theorem State.onSession_none (k : Nat) (f : Engine → Engine) (s : State) (h : s.sessions[k]? = none) :
    s.onSession k f = s := by
  simp [State.onSession, h]

/-- Everything running a procedure of session `k` can do: nothing, or put that engine's work back. -/
theorem State.onSession_cases (k : Nat) (f : Engine → Engine) (s : State) :
    (s.sessions[k]? = none ∧ s.onSession k f = s) ∨
      ∃ x, s.sessions[k]? = some x ∧ s.onSession k f = s.withEngine k (f (s.engine k x)) := by
  cases h : s.sessions[k]? with
  | none => exact .inl ⟨rfl, State.onSession_none k f s h⟩
  | some x => exact .inr ⟨x, rfl, State.onSession_some k f s x h⟩

@[simp] theorem State.onSession_params (k : Nat) (f : Engine → Engine) (s : State) :
    (s.onSession k f).params = s.params := by
  rcases s.onSession_cases k f with ⟨-, h⟩ | ⟨x, -, h⟩ <;> simp [h]

@[simp] theorem State.onSession_tickDiv (k : Nat) (f : Engine → Engine) (s : State) :
    (s.onSession k f).tickDiv = s.tickDiv := by
  rcases s.onSession_cases k f with ⟨-, h⟩ | ⟨x, -, h⟩ <;> simp [h]

@[simp] theorem State.onSession_sel (k : Nat) (f : Engine → Engine) (s : State) : (s.onSession k f).sel = s.sel := by
  rcases s.onSession_cases k f with ⟨-, h⟩ | ⟨x, -, h⟩ <;> simp [h]

@[simp] theorem State.onSession_inputs (k : Nat) (f : Engine → Engine) (s : State) :
    (s.onSession k f).inputs = s.inputs := by
  rcases s.onSession_cases k f with ⟨-, h⟩ | ⟨x, -, h⟩ <;> simp [h]

@[simp] theorem State.onSession_sessions_length (k : Nat) (f : Engine → Engine) (s : State) :
    (s.onSession k f).sessions.length = s.sessions.length := by
  rcases s.onSession_cases k f with ⟨-, h⟩ | ⟨x, -, h⟩ <;> simp [h]

/-- The engine of one session writes no other session's record (R105, R321). -/
theorem State.onSession_other (k j : Nat) (f : Engine → Engine) (s : State) (h : j ≠ k) :
    (s.onSession k f).sessions[j]? = s.sessions[j]? := by
  rcases s.onSession_cases k f with ⟨-, hs⟩ | ⟨x, -, hs⟩
  · rw [hs]
  · simp [hs, h.symm]

/-- The record a procedure of session `k` leaves. -/
theorem State.onSession_self (k : Nat) (f : Engine → Engine) (s : State) (x : Session) (h : s.sessions[k]? = some x) :
    (s.onSession k f).sessions[k]? = some (f (s.engine k x)).ses := by
  have hlt : k < s.sessions.length := (List.getElem?_eq_some_iff.mp h).1
  simp [State.onSession_some k f s x h, hlt]

/-- A command on a ready session: the body runs on the accepted record (R221). -/
theorem State.launch_ready (op : Byte) (body : Engine → Engine) (s : State) (x : Session) (h : Ready s x) :
    s.launch op body = s.withEngine s.sel
      (body (s.engine s.sel { x with done := false, err := .noError, lastOp := op })) := by
  obtain ⟨hx, hb, -⟩ := h
  simp [State.launch, State.onSession_some _ _ _ _ hx, launchOn, State.engine, hb]

end Sys2Proof.Machine
end

