-- ==== Sys2Proof/Laws/Frame.lean ====
section
/-! SUPPORT. The small lemmas of the frame codec. -/

namespace Sys2Proof.Machine

@[simp] theorem encodeFrame_b0 (alg : ChecksumAlg) (a c : Byte) (d : Data) : (encodeFrame alg a c d).b0 = a := rfl
@[simp] theorem encodeFrame_b1 (alg : ChecksumAlg) (a c : Byte) (d : Data) : (encodeFrame alg a c d).b1 = c := rfl
@[simp] theorem encodeFrame_b2 (alg : ChecksumAlg) (a c : Byte) (d : Data) :
    (encodeFrame alg a c d).b2 = dataHigh d := rfl
@[simp] theorem encodeFrame_b3 (alg : ChecksumAlg) (a c : Byte) (d : Data) :
    (encodeFrame alg a c d).b3 = dataLow d := rfl
@[simp] theorem encodeFrame_b4 (alg : ChecksumAlg) (a c : Byte) (d : Data) :
    (encodeFrame alg a c d).b4 = ck alg a c (dataHigh d) (dataLow d) := rfl

/-- The two octets of a data value, high first, are the value (R91). -/
theorem dataHigh_append_dataLow (d : Data) : dataHigh d ++ dataLow d = d := by
  apply BitVec.eq_of_getLsbD_eq
  intro i hi
  simp only [dataHigh, dataLow, BitVec.getLsbD_append, BitVec.getLsbD_extractLsb']
  by_cases h : i < 8
  · simp [h]
  · have h1 : i - 8 < 8 := by omega
    have h2 : 8 + (i - 8) = i := by omega
    simp [h, h1, h2]

/-- Writing octet `i` and reading it back (R9). -/
theorem Frame.get_put (f : Frame) (i : Nat) (b : Byte) (h : i < 5) : (f.put i b).get i = b := by
  match i, h with
  | 0, _ | 1, _ | 2, _ | 3, _ | 4, _ => rfl

/-- Writing octet `i` leaves the others (R9). -/
theorem Frame.get_put_ne (f : Frame) (i j : Nat) (b : Byte) (hi : i < 5) (hj : j < 5) (h : i ≠ j) :
    (f.put i b).get j = f.get j := by
  match i, hi, j, hj with
  | 0, _, 0, _ | 1, _, 1, _ | 2, _, 2, _ | 3, _, 3, _ | 4, _, 4, _ => exact absurd rfl h
  | 0, _, 1, _ | 0, _, 2, _ | 0, _, 3, _ | 0, _, 4, _ => rfl
  | 1, _, 0, _ | 1, _, 2, _ | 1, _, 3, _ | 1, _, 4, _ => rfl
  | 2, _, 0, _ | 2, _, 1, _ | 2, _, 3, _ | 2, _, 4, _ => rfl
  | 3, _, 0, _ | 3, _, 1, _ | 3, _, 2, _ | 3, _, 4, _ => rfl
  | 4, _, 0, _ | 4, _, 1, _ | 4, _, 2, _ | 4, _, 3, _ => rfl

end Sys2Proof.Machine
end

