-- ==== Sys2Proof/Laws/Ops.lean ====
section
/-! SUPPORT. What each shared procedure can do, said once: the lemmas later proofs cite instead of unfolding a procedure. -/

namespace Sys2Proof.Machine

/-! ### Completion -/

@[simp] theorem finish_idx (c : ErrCode) (e : Engine) : (finish c e).idx = e.idx := rfl
@[simp] theorem finish_params (c : ErrCode) (e : Engine) : (finish c e).params = e.params := rfl
@[simp] theorem finish_ports (c : ErrCode) (e : Engine) : (finish c e).ports = e.ports := rfl
@[simp] theorem finish_trace (c : ErrCode) (e : Engine) : (finish c e).trace = e.trace := rfl
@[simp] theorem finish_ses (c : ErrCode) (e : Engine) :
    (finish c e).ses = { e.ses with phase := .idle, busy := false, err := c, done := true } := rfl

/-- The two cases of `CloseAction` (R174). -/
theorem closeAction_cases (e : Engine) :
    (e.ses.isOpen = false ∧ closeAction e = e) ∨
      (e.ses.isOpen = true ∧ closeAction e =
        { e with
          ports := e.ports.modify e.ses.portSel.toNat fun q => { q with owned := false, owner := 0#3 }
          ses := { e.ses with isOpen := false } }) := by
  cases h : e.ses.isOpen with
  | false => exact .inl ⟨rfl, by simp [closeAction, h]⟩
  | true => exact .inr ⟨rfl, by simp [closeAction, h, Engine.modPort]⟩

/-- `End` on an IDLE session is the plain case (R306). -/
theorem endOp_idle (c : ErrCode) (e : Engine) (h : e.ses.phase = .idle) : endOp c e = finish c e := by
  simp [endOp, h]

/-- The two cases of `End` (R306). -/
theorem endOp_cases (c : ErrCode) (e : Engine) :
    ((e.ses.phase = .idle ∨ isGuardExit e.ses.lastOp = false) ∧ endOp c e = finish c e) ∨
      (e.ses.phase ≠ .idle ∧ isGuardExit e.ses.lastOp = true ∧ endOp c e =
        guardFinish { e with ses := { e.ses with phase := .idle, busy := false, gdis := some c } }) := by
  by_cases hp : e.ses.phase = .idle
  · exact .inl ⟨.inl hp, endOp_idle c e hp⟩
  · cases hg : isGuardExit e.ses.lastOp with
    | false => exact .inl ⟨.inr rfl, by simp [endOp, hg]⟩
    | true => exact .inr ⟨hp, rfl, by simp [endOp, hp, hg]⟩

/-! ### Opening -/

/-- Everything `OpenAction` can do (R172, R173): the no-op on an Open session, the three failures in their order, or the
port acquired. -/
theorem openAction_cases (e : Engine) :
    (e.ses.isOpen = true ∧ openAction e = ({ e with ses := { e.ses with connCause := .noCause } }, .noError)) ∨
      (e.ses.isOpen = false ∧
        ((e.ports[e.ses.portSel.toNat]? = none ∧ openAction e = openFails .absent e) ∨
          ∃ q, e.ports[e.ses.portSel.toNat]? = some q ∧
            ((q.present = false ∧ openAction e = openFails .absent e) ∨
              (q.present = true ∧ q.owned = true ∧ openAction e = openFails .busy e) ∨
              (q.present = true ∧ q.owned = false ∧ q.enable = false ∧ openAction e = openFails .permission e) ∨
              (q.present = true ∧ q.owned = false ∧ q.enable = true ∧ openAction e =
                ({ e with
                    ports := e.ports.set e.ses.portSel.toNat { q with owned := true, owner := BitVec.ofNat 3 e.idx }
                    ses := { e.ses with isOpen := true, connCause := .noCause } }, .noError))))) := by
  cases ho : e.ses.isOpen with
  | true => exact .inl ⟨rfl, by simp [openAction, ho]⟩
  | false =>
    refine .inr ⟨rfl, ?_⟩
    cases hq : e.ports[e.ses.portSel.toNat]? with
    | none => exact .inl ⟨rfl, by simp [openAction, ho, hq]⟩
    | some q =>
      refine .inr ⟨q, rfl, ?_⟩
      cases hpr : q.present with
      | false => exact .inl ⟨rfl, by simp [openAction, ho, hq, hpr]⟩
      | true =>
        cases how : q.owned with
        | true => exact .inr (.inl ⟨rfl, rfl, by simp [openAction, ho, hq, hpr, how]⟩)
        | false =>
          cases hen : q.enable with
          | false => exact .inr (.inr (.inl ⟨rfl, rfl, rfl, by simp [openAction, ho, hq, hpr, how, hen]⟩))
          | true =>
            refine .inr (.inr (.inr ⟨rfl, rfl, rfl, ?_⟩))
            simp [openAction, ho, hq, hpr, how, hen, Engine.modPort, modify_eq_set _ _ _ _ hq]

/-! ### Transactions -/

@[simp] theorem startTxn_idx (c : Byte) (d : Data) (e : Engine) : (startTxn c d e).idx = e.idx := rfl
@[simp] theorem startTxn_params (c : Byte) (d : Data) (e : Engine) : (startTxn c d e).params = e.params := rfl
@[simp] theorem startTxn_ports (c : Byte) (d : Data) (e : Engine) : (startTxn c d e).ports = e.ports := rfl
@[simp] theorem startTxn_trace (c : Byte) (d : Data) (e : Engine) : (startTxn c d e).trace = e.trace := rfl

/-- Everything `WireOp` can do (R224), in the order of its checks. -/
theorem wireOp_cases (n : WireName) (d : Data) (v : Bool) (e : Engine) :
    (v = false ∧ wireOp n d v e = endOp .validation e) ∨
      (v = true ∧ wireOctet e.params.opcodeMap n = none ∧ wireOp n d v e = endOp .unsupported e) ∨
      ∃ c, v = true ∧ wireOctet e.params.opcodeMap n = some c ∧
        ((e.ses.isOpen = false ∧ wireOp n d v e = endOp .notOpen e) ∨
          (e.ses.isOpen = true ∧ wireOp n d v e = startTxn c d e)) := by
  cases v with
  | false => exact .inl ⟨rfl, by simp [wireOp]⟩
  | true =>
    cases hw : wireOctet e.params.opcodeMap n with
    | none => exact .inr (.inl ⟨rfl, rfl, by simp [wireOp, hw]⟩)
    | some c =>
      refine .inr (.inr ⟨c, rfl, rfl, ?_⟩)
      cases ho : e.ses.isOpen with
      | false => exact .inl ⟨rfl, by simp [wireOp, hw, ho]⟩
      | true => exact .inr ⟨rfl, by simp [wireOp, hw, ho]⟩

/-- Everything `GuardDisable` can do (R282). -/
theorem guardDisable_cases (e : Engine) :
    (wireOctet e.params.opcodeMap .operationW = none ∧ guardDisable e = guardSkips .unsupported e) ∨
      ∃ c, wireOctet e.params.opcodeMap .operationW = some c ∧
        ((e.ses.isOpen = false ∧ guardDisable e = guardSkips .notOpen e) ∨
          (e.ses.isOpen = true ∧ guardDisable e = startTxn c rfDisableData e)) := by
  cases hw : wireOctet e.params.opcodeMap .operationW with
  | none => exact .inl ⟨rfl, by simp [guardDisable, hw]⟩
  | some c =>
    refine .inr ⟨c, rfl, ?_⟩
    cases ho : e.ses.isOpen with
    | false => exact .inl ⟨rfl, by simp [guardDisable, hw, ho]⟩
    | true => exact .inr ⟨rfl, by simp [guardDisable, hw, ho]⟩

/-! ### Settle -/

/-- Everything the transmit hand-off can do (R183): nothing, or load the next octet. -/
theorem handOff_cases (e : Engine) :
    handOff e = e ∨
      ∃ q, e.ports[e.ses.portSel.toNat]? = some q ∧ e.ses.phase = .tx ∧ e.ses.txLoaded.toNat < 5 ∧ q.txBusy = false ∧
        handOff e =
          { e with
            ports := e.ports.set e.ses.portSel.toNat
              { q with txBusy := true, txByte := e.ses.txf.get e.ses.txLoaded.toNat }
            trace := e.trace ++ [.txChar e.ses.portSel.toNat (e.ses.txf.get e.ses.txLoaded.toNat)]
            ses := { e.ses with txLoaded := e.ses.txLoaded + 1#3 } } := by
  cases hq : e.ports[e.ses.portSel.toNat]? with
  | none => exact .inl (by simp [handOff, hq])
  | some q =>
    by_cases h : e.ses.phase = .tx ∧ e.ses.txLoaded.toNat < 5 ∧ q.txBusy = false
    · exact .inr ⟨q, rfl, h.1, h.2.1, h.2.2, by
        simp [handOff, hq, h, Engine.modPort, modify_eq_set _ _ _ _ hq]⟩
    · exact .inl (by simp only [handOff, hq, if_neg h])

/-- The two cases of the write phase's completion (R186). -/
theorem writePhaseEnd_cases (e : Engine) :
    (¬(e.ses.phase = .tx ∧ e.ses.txSent = 5#3) ∧ writePhaseEnd e = e) ∨
      (e.ses.phase = .tx ∧ e.ses.txSent = 5#3 ∧
        writePhaseEnd e = { e with ses := { e.ses with phase := .rx, cnt := 0#16 } }) := by
  by_cases h : e.ses.phase = .tx ∧ e.ses.txSent = 5#3
  · exact .inr ⟨h.1, h.2, by simp [writePhaseEnd, h]⟩
  · exact .inl ⟨h, by simp only [writePhaseEnd, if_neg h]⟩

/-- The four outcomes of a phase in `Settle`, completion before timeout (R185, R188). -/
theorem phaseOutcome_cases (e : Engine) :
    (e.ses.phase = .rx ∧ e.ses.rxcnt = 5#3 ∧ phaseOutcome e = complete e) ∨
      (e.ses.phase = .tx ∧ e.ses.wrT ≤ e.ses.cnt ∧ phaseOutcome e = endOp .writeTimeout e) ∨
      (e.ses.phase = .rx ∧ e.ses.rxcnt ≠ 5#3 ∧ e.ses.rdT ≤ e.ses.cnt ∧ phaseOutcome e = endOp .readTimeout e) ∨
      ((e.ses.phase = .rx → e.ses.rxcnt ≠ 5#3 ∧ ¬e.ses.rdT ≤ e.ses.cnt) ∧
        (e.ses.phase = .tx → ¬e.ses.wrT ≤ e.ses.cnt) ∧ phaseOutcome e = e) := by
  cases hp : e.ses.phase with
  | idle => exact .inr (.inr (.inr ⟨nofun, nofun, by simp [phaseOutcome, hp]⟩))
  | tx =>
    by_cases hw : e.ses.wrT ≤ e.ses.cnt
    · exact .inr (.inl ⟨rfl, hw, by simp [phaseOutcome, hp, hw]⟩)
    · exact .inr (.inr (.inr ⟨nofun, fun _ => hw, by simp [phaseOutcome, hp, hw]⟩))
  | rx =>
    by_cases hc : e.ses.rxcnt = 5#3
    · exact .inl ⟨rfl, hc, by simp [phaseOutcome, hp, hc]⟩
    · by_cases hr : e.ses.rdT ≤ e.ses.cnt
      · exact .inr (.inr (.inl ⟨rfl, hc, hr, by simp [phaseOutcome, hp, hc, hr]⟩))
      · exact .inr (.inr (.inr ⟨fun _ => ⟨hc, hr⟩, nofun, by simp [phaseOutcome, hp, hc, hr]⟩))

/-- The two cases of a checksum comparison that ends a transaction (R223). -/
theorem complete_cases (e : Engine) :
    (e.ses.rxf.b4 = e.ses.rxf.expectedCk e.params.checksumAlg ∧ complete e =
      endOp .noError { e with ses := { e.ses with
        rxCk := e.ses.rxf.b4, expCk := e.ses.rxf.expectedCk e.params.checksumAlg, ckValid := true
        respAddr := e.ses.rxf.b0, respCmd := e.ses.rxf.b1, respData := e.ses.rxf.b2 ++ e.ses.rxf.b3
        respOp := e.ses.lastOp } }) ∨
      (e.ses.rxf.b4 ≠ e.ses.rxf.expectedCk e.params.checksumAlg ∧ complete e =
        endOp .checksumMismatch { e with ses := { e.ses with
          rxCk := e.ses.rxf.b4, expCk := e.ses.rxf.expectedCk e.params.checksumAlg, ckValid := false } }) := by
  by_cases h : e.ses.rxf.b4 = e.ses.rxf.expectedCk e.params.checksumAlg
  · exact .inl ⟨h, by simp [complete, decodeFrame, h]⟩
  · have hb : (e.ses.rxf.b4 == e.ses.rxf.expectedCk e.params.checksumAlg) = false := by simp [h]
    exact .inr ⟨h, by simp [complete, decodeFrame, hb]⟩

/-- `Settle` does nothing to an IDLE session (R188). -/
theorem settle_idle (e : Engine) (h : e.ses.phase = .idle) : settle e = e := by simp [settle, h]

/-- `Settle` of a busy session is its three parts in order (R188). -/
theorem settle_busy (e : Engine) (h : e.ses.phase ≠ .idle) :
    settle e = phaseOutcome (writePhaseEnd (handOff e)) := by simp [settle, h]

/-! ### Settle of every session -/

theorem settleUpTo_succ (n : Nat) (s : State) : settleUpTo (n + 1) s = (settleUpTo n s).onSession n settle := rfl

@[simp] theorem settleUpTo_params (n : Nat) (s : State) : (settleUpTo n s).params = s.params := by
  induction n with
  | zero => rfl
  | succ n ih => simp [settleUpTo_succ, ih]

@[simp] theorem settleUpTo_sessions_length (n : Nat) (s : State) :
    (settleUpTo n s).sessions.length = s.sessions.length := by
  induction n with
  | zero => rfl
  | succ n ih => simp [settleUpTo_succ, ih]

@[simp] theorem settleUpTo_inputs (n : Nat) (s : State) : (settleUpTo n s).inputs = s.inputs := by
  induction n with
  | zero => rfl
  | succ n ih => simp [settleUpTo_succ, ih]

@[simp] theorem settleUpTo_sel (n : Nat) (s : State) : (settleUpTo n s).sel = s.sel := by
  induction n with
  | zero => rfl
  | succ n ih => simp [settleUpTo_succ, ih]

@[simp] theorem settleUpTo_tickDiv (n : Nat) (s : State) : (settleUpTo n s).tickDiv = s.tickDiv := by
  induction n with
  | zero => rfl
  | succ n ih => simp [settleUpTo_succ, ih]

/-- `Settle` of the sessions before `j` leaves session `j`'s record alone. -/
theorem settleUpTo_later (n j : Nat) (s : State) (h : n ≤ j) : (settleUpTo n s).sessions[j]? = s.sessions[j]? := by
  induction n with
  | zero => rfl
  | succ n ih => rw [settleUpTo_succ, State.onSession_other _ _ _ _ (by omega), ih (by omega)]

@[simp] theorem settleAll_params (s : State) : (settleAll s).params = s.params := settleUpTo_params _ s
@[simp] theorem settleAll_inputs (s : State) : (settleAll s).inputs = s.inputs := settleUpTo_inputs _ s
@[simp] theorem settleAll_sel (s : State) : (settleAll s).sel = s.sel := settleUpTo_sel _ s
@[simp] theorem settleAll_tickDiv (s : State) : (settleAll s).tickDiv = s.tickDiv := settleUpTo_tickDiv _ s
@[simp] theorem settleAll_sessions_length (s : State) : (settleAll s).sessions.length = s.sessions.length :=
  settleUpTo_sessions_length _ s

/-! ### Events -/

/-- What a settled event answers. -/
theorem thenSettle_next (r : Result) (t : State) (h : thenSettle r = .next t) : ∃ u, r = .next u ∧ t = settleAll u := by
  cases r with
  | next u => exact ⟨u, rfl, by simpa [thenSettle] using h.symm⟩
  | fault f => simp [thenSettle] at h
  | refused f => simp [thenSettle] at h

/-- Everything `RxChar` can do (R180): the fault of a port that does not exist, a character dropped without a flag, or
one delivered to the owner. -/
theorem rxCharEvent_cases (p : Nat) (b : Byte) (ferr : Bool) (s : State) :
    (s.ports[p]? = none ∧ rxCharEvent p b ferr s = .fault (.noSuchPort p)) ∨
      ∃ q, s.ports[p]? = some q ∧
        ((q.owned = false ∧ rxCharEvent p b ferr s = .next s) ∨
          (q.owned = true ∧ rxCharEvent p b ferr s = .next (s.onSession q.owner.toNat (receiveOctet b ferr)))) := by
  cases hq : s.ports[p]? with
  | none => exact .inl ⟨rfl, by simp [rxCharEvent, hq]⟩
  | some q =>
    refine .inr ⟨q, rfl, ?_⟩
    cases ho : q.owned with
    | false => exact .inl ⟨rfl, by simp [rxCharEvent, hq, ho]⟩
    | true => exact .inr ⟨rfl, by simp [rxCharEvent, hq, ho]⟩

/-- Everything `TxDone` can do (R182, R12). -/
theorem txDoneEvent_cases (p : Nat) (s : State) :
    (s.ports[p]? = none ∧ txDoneEvent p s = .fault (.noSuchPort p)) ∨
      ∃ q, s.ports[p]? = some q ∧
        ((q.txBusy = false ∧ txDoneEvent p s = .fault (.txDoneWhileIdle p)) ∨
          (q.txBusy = true ∧ q.owned = false ∧ txDoneEvent p s = .next (s.txIdle p)) ∨
          (q.txBusy = true ∧ q.owned = true ∧
            txDoneEvent p s = .next ((s.txIdle p).onSession q.owner.toNat countSent))) := by
  cases hq : s.ports[p]? with
  | none => exact .inl ⟨rfl, by simp [txDoneEvent, hq]⟩
  | some q =>
    refine .inr ⟨q, rfl, ?_⟩
    cases hb : q.txBusy with
    | false => exact .inl ⟨rfl, by simp [txDoneEvent, hq, hb]⟩
    | true =>
      cases ho : q.owned with
      | false => exact .inr (.inl ⟨rfl, rfl, by simp [txDoneEvent, hq, hb, ho]⟩)
      | true => exact .inr (.inr ⟨rfl, rfl, by simp [txDoneEvent, hq, hb, ho]⟩)

/-- Every operation's meaning is one launch of a body (R221), whatever the state: the form `exec` always has. -/
theorem exec_is_launch (i : Instr) : ∃ body : Engine → Engine, ∀ s, exec i s = .next (s.launch (opOf i) body) := by
  cases i <;> exact ⟨_, fun _ => rfl⟩

end Sys2Proof.Machine
end

