-- ==== Sys2Proof/Laws/PerInstr.lean ====
section
/-! SUPPORT. The family of lemmas made per instruction: the OP field of an instruction's own word is its OP (R114,
R115), and that OP is not reserved (R116). -/

namespace Sys2Proof.Laws.OpField

/-- The word of `i` carries its OP in bits 7:0, and the OP is not reserved. -/
def Statement (i : Sys2Proof.Instr) : Prop :=
  opField (encode i) = opOf i ∧ isReservedOp (opOf i) = false

/-- R114: OP occupies bits 7:0 of the word packed from its parts. -/
theorem opField_packCommand (op cmd : Byte) (data : Data) : opField (packCommand op cmd data) = op := by
  apply BitVec.eq_of_getLsbD_eq
  intro i hi
  have h1 : i < 32 := by omega
  have h2 : i < 16 := by omega
  simp [opField, packCommand, hi, h1, h2]

theorem openSession : Statement (.openSession) := ⟨opField_packCommand _ _ _, by decide⟩
theorem closeSession : Statement (.closeSession) := ⟨opField_packCommand _ _ _, by decide⟩
theorem send (cmd : Byte) (data : Data) : Statement (.send cmd data) := ⟨opField_packCommand _ _ _, rfl⟩
theorem encode (cmd : Byte) (data : Data) : Statement (.encode cmd data) := ⟨opField_packCommand _ _ _, rfl⟩
theorem decode : Statement (.decode) := ⟨opField_packCommand _ _ _, by decide⟩
theorem wrsp (data : Data) : Statement (.wrsp data) := ⟨opField_packCommand _ _ _, rfl⟩
theorem rdsp : Statement (.rdsp) := ⟨opField_packCommand _ _ _, by decide⟩
theorem wrlu (data : Data) : Statement (.wrlu data) := ⟨opField_packCommand _ _ _, rfl⟩
theorem rdlu : Statement (.rdlu) := ⟨opField_packCommand _ _ _, by decide⟩
theorem wrli (data : Data) : Statement (.wrli data) := ⟨opField_packCommand _ _ _, rfl⟩
theorem rdli : Statement (.rdli) := ⟨opField_packCommand _ _ _, by decide⟩
theorem wrlp (data : Data) : Statement (.wrlp data) := ⟨opField_packCommand _ _ _, rfl⟩
theorem rdlp : Statement (.rdlp) := ⟨opField_packCommand _ _ _, by decide⟩
theorem wrmode (data : Data) : Statement (.wrmode data) := ⟨opField_packCommand _ _ _, rfl⟩
theorem rdmode : Statement (.rdmode) := ⟨opField_packCommand _ _ _, by decide⟩
theorem rfon : Statement (.rfon) := ⟨opField_packCommand _ _ _, by decide⟩
theorem rfoff : Statement (.rfoff) := ⟨opField_packCommand _ _ _, by decide⟩
theorem rdoper : Statement (.rdoper) := ⟨opField_packCommand _ _ _, by decide⟩
theorem rsterr : Statement (.rsterr) := ⟨opField_packCommand _ _ _, by decide⟩
theorem rdstat : Statement (.rdstat) := ⟨opField_packCommand _ _ _, by decide⟩
theorem rdapwr : Statement (.rdapwr) := ⟨opField_packCommand _ _ _, by decide⟩
theorem rdavol : Statement (.rdavol) := ⟨opField_packCommand _ _ _, by decide⟩
theorem rdacur : Statement (.rdacur) := ⟨opField_packCommand _ _ _, by decide⟩
theorem rdafrq : Statement (.rdafrq) := ⟨opField_packCommand _ _ _, by decide⟩
theorem genter : Statement (.genter) := ⟨opField_packCommand _ _ _, by decide⟩
theorem gexitn : Statement (.gexitn) := ⟨opField_packCommand _ _ _, by decide⟩
theorem gexite : Statement (.gexite) := ⟨opField_packCommand _ _ _, by decide⟩
theorem gexitf : Statement (.gexitf) := ⟨opField_packCommand _ _ _, by decide⟩

end Sys2Proof.Laws.OpField
end

