-- ==== Sys2Proof/Tests/Slice0.lean ====
section
/-! SUPPORT. Tests. Every expected value is the spec's: 95_test_vectors.md, the examples of the rules, or a hand
calculation from a rule named beside it. The instance is that of 95_test_vectors.md section 1. -/

namespace Sys2Proof.Tests

open Sys2Proof Sys2Proof.Machine

/-! ### The setting -/

/-- EXMAP (95_test_vectors.md section 1). -/
def exmap : OpcodeMap where
  setpointW := some 0x01#8
  setpointR := some 0x02#8
  limitUdcW := some 0x03#8
  limitUdcR := some 0x04#8
  limitIdcW := some 0x05#8
  limitIdcR := some 0x06#8
  limitPdcW := some 0x07#8
  limitPdcR := some 0x08#8
  modeW := some 0x09#8
  modeR := some 0x0A#8
  operationW := some 0x0B#8
  operationR := some 0x0C#8
  resetError := some 0x0D#8
  statusR := some 0x0E#8
  actPowerR := none
  actVoltageR := none
  actCurrentR := none
  actFrequencyR := none

/-- The parameters of 95_test_vectors.md section 1, with a clock of three cycles a tick. -/
def exParams : Params where
  checksumAlg := .sum8
  opcodeMap := exmap
  opmapId := 0x5A#8
  resetErrorData := 0x00FF#16
  baud := 9600
  clkHz := 3000

/-- The instance after reset. -/
def start : State := State.resetWith exParams 2 [true, true]

/-- Session 0 after reset. -/
def closed : Session := Session.reset 2 0

/-- Session 1 after reset. -/
def other : Session := Session.reset 2 1

/-- An Open session. -/
def open0 : Session := { closed with isOpen := true }

/-- A free port with a device. -/
def freePort : Port := Port.reset true

/-- A port held by session 0. -/
def held0 : Port := { freePort with owned := true }

/-- A state with session 0 and port 0 as given, all else as after reset. -/
def withFirst (x : Session) (q : Port) : State := (start.setSession 0 x).setPort 0 q

/-- Session 0 Open on port 0. -/
def opened : State := withFirst open0 held0

/-- RDSTAT's request with its first octet in the transmitter. -/
def sending : Session :=
  { open0 with
    busy := true, phase := .tx, lastOp := 0x1E#8, txLoaded := 1#3, txf := ⟨0x00#8, 0x0E#8, 0x00#8, 0x00#8, 0x0E#8⟩ }

/-- Port 0 held by session 0, transmitting an octet. -/
def busyPort : Port := { held0 with txBusy := true }

/-- RDSTAT's response but for its last octet. -/
def awaiting : Session :=
  { sending with
    phase := .rx, txLoaded := 5#3, txSent := 5#3, rxcnt := 4#3, rxf := ⟨0x00#8, 0x0E#8, 0x43#8, 0x41#8, 0x00#8⟩ }

/-- A guard scope on an Open session. -/
def guarded : Session := { open0 with guardActive := true }

/-- GEXITN's RF-disable attempt in its read phase, the fifth octet still to come. -/
def exiting : Session :=
  { awaiting with guardActive := true, lastOp := 0x31#8, rxf := ⟨0x00#8, 0x0B#8, 0x00#8, 0x00#8, 0x00#8⟩ }

/-- What an answer shows of itself when it is a next state. -/
def Shown {α : Type} (r : Result) (f : State → α) : Option α :=
  match r with
  | .next t => some (f t)
  | .fault _ => none
  | .refused _ => none

/-- The step of a write of `w` to session `k`'s CTRL register. -/
def launched (s : State) (k w : Nat) : Result := after s [.host (.write (sessionBase k) (BitVec.ofNat 32 w))]

/-- STAT of session 0 after the command word `w`. -/
def statAfter (s : State) (w : Nat) : Option Word := Shown (launched s 0 w) (readReg · 0x004#11)

/-- The request frame of session 0's command word `w` on an Open session, with the octet the step emitted. -/
def request (w : Nat) : Option (Option Frame × List Output) :=
  Shown (launched opened 0 w) fun t => (t.sessions.head?.map (·.txf), t.trace)

/-! ### WellFormed refuses what does not assemble (R130, R131, R6) -/

theorem test_wf_accepts : (AsmLine.wellFormed ⟨"SEND", 7, [255, 65535]⟩) = true := by decide
theorem test_wf_session : (AsmLine.wellFormed ⟨"OPEN", 8, []⟩) = false := by decide
theorem test_wf_mnemonic : (AsmLine.wellFormed ⟨"NOP", 0, []⟩) = false := by decide
theorem test_wf_too_few : (AsmLine.wellFormed ⟨"WRSP", 0, []⟩) = false := by decide
theorem test_wf_too_many : (AsmLine.wellFormed ⟨"RDSP", 0, [0]⟩) = false := by decide
theorem test_wf_octet : (AsmLine.wellFormed ⟨"SEND", 0, [256, 0]⟩) = false := by decide
theorem test_wf_data : (AsmLine.wellFormed ⟨"WRSP", 0, [65536]⟩) = false := by decide
theorem test_wf_port : (AsmLine.wellFormed ⟨"SETCFG", 0, [0, 8]⟩) = false := by decide
theorem test_wf_params : exParams.wellFormed = true := by decide
theorem test_wf_clock_runs : ({ exParams with clkHz := 0 } : Params).wellFormed = false := by decide
theorem test_wf_clock_divides : ({ exParams with clkHz := 1500 } : Params).wellFormed = false := by decide
theorem test_wf_baud : ({ exParams with baud := 0 } : Params).wellFormed = false := by decide

/-! ### Decoding: 95_test_vectors.md section 3.2 -/

theorem test_decode_open : decodeTableWord 32 0x00000001 = some .openSession := by decide
theorem test_decode_close : decodeTableWord 32 0x00000002 = some .closeSession := by decide
theorem test_decode_send : decodeTableWord 32 0x00000E03 = some (.send 0x0E#8 0#16) := by decide
theorem test_decode_encode : decodeTableWord 32 0x00320104 = some (.encode 0x01#8 50#16) := by decide
theorem test_decode_decode : decodeTableWord 32 0x00000005 = some .decode := by decide
theorem test_decode_wrsp : decodeTableWord 32 0x01F40010 = some (.wrsp 500#16) := by decide
theorem test_decode_rdsp : decodeTableWord 32 0x00000011 = some .rdsp := by decide
theorem test_decode_wrlu : decodeTableWord 32 0x03E80012 = some (.wrlu 1000#16) := by decide
theorem test_decode_rdlu : decodeTableWord 32 0x00000013 = some .rdlu := by decide
theorem test_decode_wrli : decodeTableWord 32 0x00000014 = some (.wrli 0#16) := by decide
theorem test_decode_rdli : decodeTableWord 32 0x00000015 = some .rdli := by decide
theorem test_decode_wrlp : decodeTableWord 32 0x02EE0016 = some (.wrlp 750#16) := by decide
theorem test_decode_rdlp : decodeTableWord 32 0x00000017 = some .rdlp := by decide
theorem test_decode_wrmode : decodeTableWord 32 0x00020018 = some (.wrmode 2#16) := by decide
theorem test_decode_rdmode : decodeTableWord 32 0x00000019 = some .rdmode := by decide
theorem test_decode_rfon : decodeTableWord 32 0x0000001A = some .rfon := by decide
theorem test_decode_rfoff : decodeTableWord 32 0x0000001B = some .rfoff := by decide
theorem test_decode_rdoper : decodeTableWord 32 0x0000001C = some .rdoper := by decide
theorem test_decode_rsterr : decodeTableWord 32 0x0000001D = some .rsterr := by decide
theorem test_decode_rdstat : decodeTableWord 32 0x0000001E = some .rdstat := by decide
theorem test_decode_rdapwr : decodeTableWord 32 0x00000020 = some .rdapwr := by decide
theorem test_decode_rdavol : decodeTableWord 32 0x00000021 = some .rdavol := by decide
theorem test_decode_rdacur : decodeTableWord 32 0x00000022 = some .rdacur := by decide
theorem test_decode_rdafrq : decodeTableWord 32 0x00000023 = some .rdafrq := by decide
theorem test_decode_genter : decodeTableWord 32 0x00000030 = some .genter := by decide
theorem test_decode_gexitn : decodeTableWord 32 0x00000031 = some .gexitn := by decide
theorem test_decode_gexite : decodeTableWord 32 0x00000032 = some .gexite := by decide
theorem test_decode_gexitf : decodeTableWord 32 0x00000033 = some .gexitf := by decide

/-- Unused fields are ignored (R112); reserved OPs are refused (R116). -/
theorem test_decode_unused_and_reserved :
    decodeTableWord 32 0xFFFF001A = some .rfon ∧ decodeTableWord 32 0x0000AB11 = some .rdsp ∧
      ([0x00, 0x06, 0x0F, 0x1F, 0x24, 0x2F, 0x34, 0xFF].all fun w => (decodeTableWord 32 w).isNone) = true := by decide

/-- R114's example, and R130's. -/
theorem test_encode_words :
    encode (.wrsp 500#16) = 0x01F40010#32 ∧ encode (.send 0x0E#8 0#16) = 0x00000E03#32 := by decide

/-! ### Codec: S1, S2 and section 3.1 -/

theorem test_checksums :
    ck .sum8 0xFF#8 0xFF#8 0xFF#8 0xFF#8 = 0xFC#8 ∧ ck .xor8 0xFF#8 0xFF#8 0xFF#8 0xFF#8 = 0x00#8 ∧
      ck .sum8 0x12#8 0x34#8 0x56#8 0x78#8 = 0x14#8 ∧ ck .xor8 0x12#8 0x34#8 0x56#8 0x78#8 = 0x08#8 := by decide

theorem test_encode_frame :
    encodeFrame .sum8 0x12#8 0x34#8 0x5678#16 = ⟨0x12#8, 0x34#8, 0x56#8, 0x78#8, 0x14#8⟩ := by decide

theorem test_decode_frame_is_judged_by_the_algorithm :
    decodeFrame .sum8 ⟨0x12#8, 0x34#8, 0x56#8, 0x78#8, 0x14#8⟩ = ⟨0x12#8, 0x34#8, 0x5678#16, true⟩ ∧
      decodeFrame .xor8 ⟨0x12#8, 0x34#8, 0x56#8, 0x78#8, 0x14#8⟩ = ⟨0x12#8, 0x34#8, 0x5678#16, false⟩ := by decide

/-! ### One step of each instruction -/

/-- Section 3.4: OPEN of s0. -/
theorem test_open :
    Shown (launched start 0 0x00000001) (fun t => (readReg t 0x004#11, readReg t 0x408#11)) =
      some (0x01F00005#32, 0x00000008#32) := by decide

/-- Section 3.4: PORT_SEL = 7 has no port: CONNECTION, absent. -/
theorem test_open_absent :
    Shown (launched (start.setSession 0 { closed with portSel := 7#3 }) 0 0x00000001)
      (fun t => (readReg t 0x004#11, readReg t 0x038#11)) = some (0x01F00014#32, 0x00000001#32) := by decide

/-- Section 3.4: CLOSE releases the port. -/
theorem test_close :
    Shown (launched opened 0 0x00000002) (fun t => (readReg t 0x004#11, readReg t 0x408#11)) =
      some (0x02F00004#32, 0x00000000#32) := by decide

/-- Section 3.4: CLOSE on a Closed session still completes. -/
theorem test_close_closed : statAfter start 0x00000002 = some 0x02F00004#32 := by decide

theorem test_send :
    request 0x00000E03 = some (some ⟨0x00#8, 0x0E#8, 0x00#8, 0x00#8, 0x0E#8⟩, [.txChar 0 0x00#8]) := by decide

/-- Section 3.5: SEND on a Closed session ends with NOT_OPEN. -/
theorem test_send_closed : statAfter start 0x00000E03 = some 0x03F00024#32 := by decide

/-- P8, step 1. -/
theorem test_encode :
    Shown (launched start 0 0x00320104)
      (fun t => (readReg t 0x01C#11, readReg t 0x020#11, readReg t 0x018#11)) =
      some (0x32000100#32, 0x00000033#32, 0x00330000#32) := by decide

/-- P8, step 3 (S2): a bad checksum is reported by CK_VALID alone. -/
theorem test_decode :
    Shown (launched (start.setSession 0
        { closed with cin := ⟨0x00#8, 0x01#8, 0x00#8, 0x32#8, 0x99#8⟩, txCk := 0x33#8 }) 0 0x00000005)
      (fun t => (readReg t 0x014#11, readReg t 0x018#11, readReg t 0x004#11, readReg t 0x034#11)) =
      some (0x00320100#32, 0x05333399#32, 0x05F00004#32, 0x00320006#32) := by decide

theorem test_wrsp :
    request 0x01F40010 = some (some ⟨0x00#8, 0x01#8, 0x01#8, 0xF4#8, 0xF6#8⟩, [.txChar 0 0x00#8]) := by decide
/-- P5, steps 1 and 2: VALIDATION before NOT_OPEN. -/
theorem test_wrsp_priority :
    statAfter start 0x03E90010 = some 0x10F00034#32 ∧ statAfter start 0x03E80010 = some 0x10F00024#32 := by decide
theorem test_rdsp :
    request 0x00000011 = some (some ⟨0x00#8, 0x02#8, 0x00#8, 0x00#8, 0x02#8⟩, [.txChar 0 0x00#8]) := by decide
theorem test_wrlu :
    request 0x03E80012 = some (some ⟨0x00#8, 0x03#8, 0x03#8, 0xE8#8, 0xEE#8⟩, [.txChar 0 0x00#8]) := by decide
/-- R228, as S5: 1001 is refused. -/
theorem test_wrlu_range : statAfter opened 0x03E90012 = some 0x12F00035#32 := by decide
theorem test_rdlu :
    request 0x00000013 = some (some ⟨0x00#8, 0x04#8, 0x00#8, 0x00#8, 0x04#8⟩, [.txChar 0 0x00#8]) := by decide
theorem test_wrli :
    request 0x00000014 = some (some ⟨0x00#8, 0x05#8, 0x00#8, 0x00#8, 0x05#8⟩, [.txChar 0 0x00#8]) := by decide
/-- R230, as S5: 1001 is refused. -/
theorem test_wrli_range : statAfter opened 0x03E90014 = some 0x14F00035#32 := by decide
theorem test_rdli :
    request 0x00000015 = some (some ⟨0x00#8, 0x06#8, 0x00#8, 0x00#8, 0x06#8⟩, [.txChar 0 0x00#8]) := by decide
theorem test_wrlp :
    request 0x02EE0016 = some (some ⟨0x00#8, 0x07#8, 0x02#8, 0xEE#8, 0xF7#8⟩, [.txChar 0 0x00#8]) := by decide
/-- R232, as S5: 1001 is refused. -/
theorem test_wrlp_range : statAfter opened 0x03E90016 = some 0x16F00035#32 := by decide
theorem test_rdlp :
    request 0x00000017 = some (some ⟨0x00#8, 0x08#8, 0x00#8, 0x00#8, 0x08#8⟩, [.txChar 0 0x00#8]) := by decide
theorem test_wrmode :
    request 0x00020018 = some (some ⟨0x00#8, 0x09#8, 0x00#8, 0x02#8, 0x0B#8⟩, [.txChar 0 0x00#8]) := by decide
/-- P5, step 7. -/
theorem test_wrmode_range : statAfter opened 0x00030018 = some 0x18F00035#32 := by decide
theorem test_rdmode :
    request 0x00000019 = some (some ⟨0x00#8, 0x0A#8, 0x00#8, 0x00#8, 0x0A#8⟩, [.txChar 0 0x00#8]) := by decide
/-- Section 3.2: the DATA field is ignored. -/
theorem test_rfon :
    request 0xFFFF001A = some (some ⟨0x00#8, 0x0B#8, 0x00#8, 0x01#8, 0x0C#8⟩, [.txChar 0 0x00#8]) := by decide
theorem test_rfoff :
    request 0x0000001B = some (some ⟨0x00#8, 0x0B#8, 0x00#8, 0x00#8, 0x0B#8⟩, [.txChar 0 0x00#8]) := by decide
theorem test_rdoper :
    request 0x0000001C = some (some ⟨0x00#8, 0x0C#8, 0x00#8, 0x00#8, 0x0C#8⟩, [.txChar 0 0x00#8]) := by decide
theorem test_rsterr :
    request 0x0000001D = some (some ⟨0x00#8, 0x0D#8, 0x00#8, 0xFF#8, 0x0C#8⟩, [.txChar 0 0x00#8]) := by decide
theorem test_rdstat :
    request 0x0000001E = some (some ⟨0x00#8, 0x0E#8, 0x00#8, 0x00#8, 0x0E#8⟩, [.txChar 0 0x00#8]) := by decide
/-- P5, step 4, and the same of the other actual-value reads (R241 to R244). -/
theorem test_rdapwr : statAfter opened 0x00000020 = some 0x20F00075#32 := by decide
theorem test_rdavol : statAfter opened 0x00000021 = some 0x21F00075#32 := by decide
theorem test_rdacur : statAfter opened 0x00000022 = some 0x22F00075#32 := by decide
theorem test_rdafrq : statAfter opened 0x00000023 = some 0x23F00075#32 := by decide

/-- P2, step 1. -/
theorem test_genter : statAfter start 0x00000030 = some 0x30F00105#32 := by decide
/-- Section 3.6: a second GENTER; STAT by hand from R38 (GUARD_STATE 9, still Open and in scope). -/
theorem test_genter_twice : statAfter (withFirst guarded held0) 0x00000030 = some 0x30F00195#32 := by decide
/-- P3, step 4. -/
theorem test_gexitn :
    Shown (launched (withFirst { guarded with ckValid := true } held0) 0 0x00000031)
      (fun t => (readReg t 0x004#11, t.trace)) =
      some (0x31F02303#32, [.txChar 0 0x00#8]) := by decide
/-- P5, step 6. -/
theorem test_gexitn_outside : statAfter opened 0x00000031 = some 0x31F00095#32 := by decide
/-- Section 3.6: GENTER, CLOSE, GEXITE. -/
theorem test_gexite_closed :
    statAfter (start.setSession 0 { closed with guardActive := true }) 0x00000032 = some 0x32200004#32 := by decide
/-- Section 3.6: GEXITE inside a scope sends the RF-disable frame. -/
theorem test_gexite :
    Shown (launched (withFirst guarded held0) 0 0x00000032) (fun t => t.sessions.head?.map (·.txf)) =
      some (some ⟨0x00#8, 0x0B#8, 0x00#8, 0x00#8, 0x0B#8⟩) := by decide
/-- P2, step 4, on a session that collected nothing: no octet, Closed, GDIS = 0xF. -/
theorem test_gexitf :
    Shown (launched (withFirst guarded held0) 0 0x00000033)
      (fun t => (readReg t 0x004#11, readReg t 0x408#11, t.trace)) =
      some (0x33F00004#32, 0x00000000#32, []) := by decide

/-- P5, step 5. -/
theorem test_reserved : statAfter opened 0x00000006 = some 0x06F00085#32 := by decide

/-- Section 3.7: CLOSE while RDSP is in progress is refused with OVERRUN. -/
theorem test_overrun :
    statAfter (withFirst { sending with lastOp := 0x11#8 } busyPort) 0x00000002 = some 0x11F03003#32 := by decide

/-! ### One step of each other event -/

/-- P1, step 8: the fifth octet completes the transaction. -/
theorem test_fifth_octet :
    Shown (after (withFirst { awaiting with rxDrop := false } held0) [.rxChar 0 0x92#8 false])
      (fun t => (readReg t 0x014#11, readReg t 0x034#11, readReg t 0x004#11)) =
      some (0x43410E00#32, 0x43410439#32, 0x1EF50205#32) := by decide

/-- P2, step 3: a bad checksum; RESP is unchanged. -/
theorem test_fifth_octet_bad :
    Shown (after (withFirst awaiting held0) [.rxChar 0 0x00#8 false])
      (fun t => (readReg t 0x014#11, readReg t 0x004#11)) = some (0x00000000#32, 0x1EF5006D#32) := by decide

/-- P3, step 6: the RF-disable attempt succeeds and the session closes. -/
theorem test_guard_exit_ends :
    Shown (after (withFirst exiting held0) [.rxChar 0 0x0B#8 false])
      (fun t => (readReg t 0x004#11, readReg t 0x408#11)) = some (0x31050204#32, 0x00000000#32) := by decide

/-- Section 3.4: a character for an IDLE session sets RX_DROP; one with a framing error sets RX_FERR. -/
theorem test_rx_flags :
    Shown (after opened [.rxChar 0 0x55#8 false]) (readReg · 0x004#11) = some 0x00F00401#32 ∧
      Shown (after opened [.rxChar 0 0x55#8 true]) (readReg · 0x004#11) = some 0x00F00801#32 := by decide

/-- Section 3.4: a character on an unowned port changes nothing. -/
theorem test_rx_unowned : Shown (after opened [.rxChar 1 0x55#8 false]) (fun t => t) = some opened := by decide

/-- R182, R183: the next octet is loaded in the step of the transmit completion. -/
theorem test_tx_done :
    Shown (after (withFirst sending busyPort) [.txDone 0]) (fun t => (t.trace, readReg t 0x038#11)) =
      some ([.txChar 0 0x0E#8], 0x00000120#32) := by decide

/-- R12: no TxDone comes from an idle transmitter. -/
theorem test_tx_done_idle : after opened [.txDone 0] = .fault (.txDoneWhileIdle 0) := rfl

/-- P6, step 5, with WR_T = 3. -/
theorem test_write_timeout :
    Shown (after (withFirst { sending with wrT := 3#16, cnt := 2#16, lastOp := 0x10#8 } busyPort) [.tick])
      (fun t => (readReg t 0x004#11, readReg t 0x038#11)) = some (0x10F0004D#32, 0x00030010#32) := by decide

/-- P4, step 6. -/
theorem test_read_timeout :
    Shown (after (withFirst { awaiting with rxcnt := 3#3, cnt := 999#16, lastOp := 0x11#8 } held0) [.tick])
      (fun t => (readReg t 0x004#11, readReg t 0x038#11)) = some (0x11F3005D#32, 0x03E80550#32) := by decide

/-- R318: with CLK_HZ/1000 = 3 the third edge is the tick. -/
theorem test_clk :
    Shown (after { withFirst sending busyPort with tickDiv := 1 } [.clk]) (fun t => (t.tickDiv, readReg t 0x038#11)) =
        some (2, 0x00000010#32) ∧
      Shown (after { withFirst sending busyPort with tickDiv := 2 } [.clk]) (fun t => (t.tickDiv, readReg t 0x038#11)) =
        some (0, 0x00010010#32) := by decide

/-- Section 3.4: PRESENT drops; the session stays Open. -/
theorem test_present :
    Shown (after opened [.present 0 false]) (fun t => (readReg t 0x40C#11, readReg t 0x004#11)) =
      some (0x00000002#32, 0x00F00001#32) := by decide

/-- Section 3.8: Reset in mid-transaction. -/
theorem test_reset :
    Shown (after (withFirst sending busyPort) [.reset none]) (fun t => t) = some start := by decide

/-! ### Registers: section 3.3 -/

theorem test_reset_registers :
    [0x004#11, 0x008#11, 0x00C#11, 0x04C#11, 0x010#11, 0x014#11, 0x018#11, 0x038#11].map (readReg start) =
        [0x00F00000#32, 0#32, 0#32, 0x00000100#32, 0x03E803E8#32, 0#32, 0#32, 0#32] ∧
      [0x400#11, 0x404#11, 0x408#11, 0x40C#11, 0x410#11].map (readReg start) =
        [0x015A0022#32, 3#32, 0#32, 3#32, 0#32] := by decide

theorem test_unused_addresses :
    [0x000#11, 0x001#11, 0x03C#11, 0x080#11, 0x414#11, 0x7FC#11].map (readReg opened) = [0#32, 0#32, 0#32, 0#32, 0#32, 0#32] ∧
      readReg opened 0x005#11 = readReg opened 0x004#11 := by decide

theorem test_tmo_warl :
    Shown (after start [.host (.write 0x010#11 0x00000000#32)]) (readReg · 0x010#11) = some 0x00010001#32 ∧
      Shown (after start [.host (.write 0x010#11 0xFFFF0005#32)]) (readReg · 0x010#11) = some 0xFFFF0005#32 := by decide

theorem test_cfg_frozen :
    Shown (after opened [.host (.write 0x00C#11 0x00000012#32)]) (readReg · 0x00C#11) = some 0x00000000#32 ∧
      Shown (after start [.host (.write 0x00C#11 0x00000012#32)]) (readReg · 0x00C#11) = some 0x00000012#32 := by decide

theorem test_stat_w1c :
    Shown (after (withFirst { open0 with done := true, rxDrop := true, overrun := true, lastOp := 0x10#8 } held0)
      [.host (.write 0x004#11 0x00000004#32)]) (readReg · 0x004#11) = some 0x10F01401#32 := by decide

/-- Section 3.5, SDEC. -/
theorem test_sdec :
    statusView 0x4341#16 = 0x43410439#32 ∧ statusView 0xFFFF#16 = 0xFFFF0FFF#32 ∧ statusView 0x00A0#16 = 0x00A0000C#32 ∧
      statusView 0x0600#16 = 0x060000F0#32 ∧ statusView 0x201C#16 = 0x201C0000#32 := by decide

/-- Section 3.7: IE, then OPEN, raises irq. -/
theorem test_irq :
    Shown (launched (start.setSession 0 { closed with doneIe := true }) 0 0x00000001)
      (fun t => (t.irq, readReg t 0x410#11)) = some (true, 0x00000001#32) := by decide

/-- R354: a read while `rst` is high returns 0. -/
theorem test_read_in_reset :
    Shown (after opened [.reset (some (.read 0x400#11))]) (·.trace) = some [.readData 0x400#11 0#32] := by decide

/-! ### UART and assembler -/

/-- R128: the letter 0x55 alternates on the line. -/
theorem test_uart_levels :
    characterLevels 0x55#8 = [false, true, false, true, false, true, false, true, false, true] := by decide

/-- R129: the character is received as sent; a break is a framing error of octet 0. -/
theorem test_uart_receive :
    receiveLevels 1 (characterLevels 0x9A#8) = some (.rxChar 1 0x9A#8 false) ∧
      receiveLevels 1 (List.replicate 10 false) = some (.rxChar 1 0x00#8 true) := by decide

/-- R130's examples, and R131's expansions with P6's and P8's words. -/
theorem test_assembler :
    asmAccesses ⟨"WRSP", 1, [500]⟩ = some [.write 0x040#11 0x01F40010#32] ∧
      asmAccesses ⟨"SETTMO", 0, [3, 1000]⟩ = some [.write 0x010#11 0x03E80003#32] ∧
      asmAccesses ⟨"SETCFG", 1, [0x12, 0]⟩ = some [.write 0x04C#11 0x00000012#32] ∧
      asmAccesses ⟨"LDCIN", 0, [0, 1, 0, 0x32, 0x99]⟩ =
        some [.write 0x02C#11 0x32000100#32, .write 0x030#11 0x00000099#32] ∧
      asmAccesses ⟨"ACK", 0, []⟩ = some [.write 0x004#11 0x00000004#32] ∧
      asmAccesses ⟨"SEND", 0, [256, 0]⟩ = none := by decide

/-- A word runs as the first event after `State.reset`, whatever the open parameters: GEXITF outside a scope (R284). -/
theorem test_first_word_runs :
    Shown (step (State.reset.withFetchWord 32 0x00000033)) (readReg · 0x004#11) = some 0x33F00094#32 := by decide

/-! ### Witnesses: for each statement with hypotheses, states and operands that meet them all -/

/-- A property of both entries of a list of two. -/
theorem both {α : Type} {P : Nat → α → Prop} {a b : α} (ha : P 0 a) (hb : P 1 b) :
    ∀ (k : Nat) (x : α), [a, b][k]? = some x → P k x
  | 0, x, h => by simpa using (show a = x by simpa using h) ▸ ha
  | 1, x, h => by simpa using (show b = x by simpa using h) ▸ hb
  | k + 2, x, h => by simp at h

/-- The invariant of a state of two sessions and two ports. -/
theorem inv_of_two {s : State} {x y : Session} {q r : Port} (hs : s.sessions = [x, y]) (hp : s.ports = [q, r])
    (hx : SessionOk [q, r] 0 x) (hy : SessionOk [q, r] 1 y) (hq : PortOk [x, y] 0 q) (hr : PortOk [x, y] 1 r)
    (hsx : SettledOk [q, r] x) (hsy : SettledOk [q, r] y) : s.Inv where
  sessions_count := by simp [hs]
  ports_count := by simp [hp]
  session_ok := by rw [hs, hp]; exact both hx hy
  port_ok := by rw [hs, hp]; exact both hq hr
  settled_ok := by rw [hs, hp]; exact both (P := fun _ z => SettledOk [q, r] z) hsx hsy

/-- Session 1 after reset is as the invariant wants it, whatever the ports. -/
theorem other_ok (ports : List Port) : SessionOk ports 1 other :=
  ⟨by decide, by decide, by decide, by decide, by decide, by decide, by decide, by decide, nofun⟩

theorem other_settled (ports : List Port) : SettledOk ports other := ⟨nofun, nofun, nofun⟩

theorem freePort_ok (sessions : List Session) : PortOk sessions 1 freePort := ⟨nofun, fun _ => rfl⟩

theorem start_inv : start.Inv :=
  inv_of_two (x := closed) (y := other) rfl rfl
    ⟨by decide, by decide, by decide, by decide, by decide, by decide, by decide, by decide, nofun⟩ (other_ok _)
    ⟨nofun, fun _ => rfl⟩ (freePort_ok _) ⟨nofun, nofun, nofun⟩ (other_settled _)

theorem opened_inv : opened.Inv :=
  inv_of_two (x := open0) (y := other) rfl rfl
    ⟨by decide, by decide, by decide, by decide, by decide, by decide, by decide, by decide,
      fun _ => ⟨held0, rfl, rfl, rfl⟩⟩ (other_ok _)
    ⟨fun _ => ⟨open0, rfl, rfl, rfl⟩, nofun⟩ (freePort_ok _) ⟨nofun, nofun, nofun⟩ (other_settled _)

/-- RDSTAT's request one tick before its write timeout. -/
def lateSending : Session := { sending with wrT := 3#16, cnt := 2#16 }

theorem sending_inv : (withFirst sending busyPort).Inv :=
  inv_of_two (x := sending) (y := other) rfl rfl
    ⟨by decide, by decide, by decide, by decide, by decide, by decide, by decide, by decide,
      fun _ => ⟨busyPort, rfl, rfl, rfl⟩⟩ (other_ok _)
    ⟨fun _ => ⟨sending, rfl, rfl, rfl⟩, nofun⟩ (freePort_ok _)
    ⟨fun _ => by decide, fun _ => ⟨busyPort, rfl, rfl, .inr (by decide)⟩, nofun⟩ (other_settled _)

theorem lateSending_inv : (withFirst lateSending busyPort).Inv :=
  inv_of_two (x := lateSending) (y := other) rfl rfl
    ⟨by decide, by decide, by decide, by decide, by decide, by decide, by decide, by decide,
      fun _ => ⟨busyPort, rfl, rfl, rfl⟩⟩ (other_ok _)
    ⟨fun _ => ⟨lateSending, rfl, rfl, rfl⟩, nofun⟩ (freePort_ok _)
    ⟨fun _ => by decide, fun _ => ⟨busyPort, rfl, rfl, .inr (by decide)⟩, nofun⟩ (other_settled _)

/-- A session in its read phase, `x`, on port 0 meets the invariant. -/
theorem reading_inv (x : Session) (h : SessionOk [held0, freePort] 0 x) (ho : x.isOpen = true) (hs : x.portSel = 0#3)
    (hp : x.phase = .rx) (hr : x.rxcnt.toNat < 5 ∧ x.cnt.toNat < x.rdT.toNat ∧ x.txLoaded.toNat = 5 ∧ x.txSent.toNat = 5) :
    (withFirst x held0).Inv :=
  inv_of_two (x := x) (y := other) rfl rfl h (other_ok _)
    ⟨fun _ => ⟨x, rfl, ho, by simp [hs]⟩, nofun⟩ (freePort_ok _)
    ⟨fun h => absurd (hp.symm.trans h) nofun, fun h => absurd (hp.symm.trans h) nofun, fun _ => hr⟩ (other_settled _)

/-- RDSTAT's response one tick before its read timeout. -/
def lateAwaiting : Session := { awaiting with cnt := 999#16 }

theorem lateAwaiting_inv : (withFirst lateAwaiting held0).Inv :=
  reading_inv lateAwaiting ⟨by decide, by decide, by decide, by decide, by decide, by decide, by decide, by decide,
    fun _ => ⟨held0, rfl, rfl, rfl⟩⟩ rfl rfl rfl (by decide)

theorem exiting_inv : (withFirst exiting held0).Inv :=
  reading_inv exiting ⟨by decide, by decide, by decide, by decide, by decide, by decide, by decide, by decide,
    fun _ => ⟨held0, rfl, rfl, rfl⟩⟩ rfl rfl rfl (by decide)

/-- Session 0 ready to take a command: Closed, Open, and in a guard scope. -/
theorem start_ready : Ready start closed := ⟨rfl, rfl, rfl⟩
theorem opened_ready : Ready opened open0 := ⟨rfl, rfl, rfl⟩
theorem guarded_ready : Ready (withFirst guarded held0) guarded := ⟨rfl, rfl, rfl⟩

/-- The same instance without the RF-disable command. -/
def unmapped (s : State) : State := { s with params := { exParams with opcodeMap := { exmap with operationW := none } } }

/-- A step that answers `f` of the state. -/
def answers (s : State) (f : State → Bool) : Bool :=
  match step s with
  | .next t => f t
  | .fault _ => false
  | .refused _ => false

theorem witness_DecodedFieldsAreTheWordsFields : decode 0xFFFFFF03#32 = .ok (.send 0xFF#8 0xFFFF#16) := rfl

theorem witness_SingleBitChangeIsDetected :
    (decodeFrame .sum8 ⟨0x00#8, 0x01#8, 0x00#8, 0x32#8, 0x33#8⟩).valid = true ∧ 4 < 5 ∧ 7 < 8 ∧
      (decodeFrame .xor8 ⟨0x00#8, 0x01#8, 0x00#8, 0x32#8, 0x33#8⟩).valid = true := by decide

theorem witness_StepRunsTheDecodedInstruction :
    ({ start with inputs := [.host (.write 0x043#11 0x0000FF01#32)] } : State).inputs =
        .host (.write 0x043#11 0x0000FF01#32) :: [] ∧
      1 < start.sessions.length ∧ start.sessions.length ≤ 8 ∧ (0x043#11).toNat / 4 = 16 * 1 ∧
      decode 0x0000FF01#32 = .ok .openSession := by
  refine ⟨rfl, ?_, ?_, ?_, rfl⟩ <;> decide

theorem witness_ReservedOpCompletesWithIllegalOp :
    Ready start closed ∧ decode 0x12345600#32 = .error (.reservedOp ((0x12345600#32).extractLsb' 0 8)) ∧
      decode 0x00000034#32 = .error (.reservedOp ((0x00000034#32).extractLsb' 0 8)) := ⟨start_ready, rfl, rfl⟩

theorem witness_BusySessionRefusesEveryCommand :
    (withFirst sending busyPort).sessions[(withFirst sending busyPort).sel]? = some sending ∧ sending.busy = true :=
  ⟨rfl, rfl⟩

theorem witness_OpenAcquiresThePort :
    Ready start closed ∧ closed.isOpen = false ∧ start.ports[closed.portSel.toNat]? = some freePort ∧
      freePort.present = true ∧ freePort.owned = false ∧ freePort.enable = true :=
  ⟨start_ready, rfl, rfl, rfl, rfl, rfl⟩

theorem witness_OpenWhileOpenIsANoOp : Ready opened open0 ∧ open0.isOpen = true := ⟨opened_ready, rfl⟩

/-- Every cause of R173, and that an absent device wins over the other two. -/
theorem witness_FailedOpenReportsTheFirstCause :
    Ready (withFirst { closed with portSel := 2#3 } freePort) { closed with portSel := 2#3 } ∧
      closed.isOpen = false ∧ closed.guardActive = false ∧
      connectionCause [freePort, freePort] 2 = some .absent ∧
      connectionCause [⟨true, 1#3, false, false, 0#8, false⟩, freePort] 0 = some .absent ∧
      connectionCause [⟨true, 1#3, false, false, 0#8, true⟩, freePort] 0 = some .busy ∧
      connectionCause [⟨false, 0#3, false, false, 0#8, true⟩, freePort] 0 = some .permission :=
  ⟨⟨rfl, rfl, rfl⟩, rfl, rfl, rfl, rfl, rfl, rfl⟩

theorem witness_CloseReleasesThePort :
    (Ready opened open0 ∧ open0.isOpen = true ∧ opened.ports[open0.portSel.toNat]? = some held0) ∧
      Ready start closed ∧ closed.isOpen = false := ⟨⟨opened_ready, rfl, rfl⟩, start_ready, rfl⟩

/-- For the statements whose only hypothesis is `Ready`: EncodeWritesTheFrame and DecodeReportsTheHostsFrame. -/
theorem witness_EncodeWritesTheFrame : Ready start closed := start_ready
theorem witness_DecodeReportsTheHostsFrame : Ready start closed := start_ready

theorem witness_SendStartsARawTransaction :
    (Ready opened open0 ∧ open0.isOpen = true) ∧ Ready start closed ∧ closed.isOpen = false :=
  ⟨⟨opened_ready, rfl⟩, start_ready, rfl⟩

/-- An instance that maps the actual-value reads too. -/
def fullyMapped (s : State) : State :=
  { s with params := { exParams with opcodeMap := { exmap with
      actPowerR := some 0x10#8, actVoltageR := some 0x11#8, actCurrentR := some 0x12#8, actFrequencyR := some 0x13#8 } } }

/-- The hypotheses inside `StartsWire`, for the wire operation `name` on an instance that maps it. -/
def Startable (name : WireName) : Prop :=
  Ready (fullyMapped opened) open0 ∧ open0.isOpen = true ∧
    ∃ c, wireOctet (fullyMapped opened).params.opcodeMap name = some c

theorem startable (name : WireName) : Startable name :=
  ⟨⟨rfl, rfl, rfl⟩, rfl, by cases name <;> exact ⟨_, rfl⟩⟩

theorem witness_SetpointAndLimitWritesSendTheirData :
    (1000#16).toNat ≤ 1000 ∧ (0#16).toNat ≤ 1000 ∧ Startable .setpointW ∧ Startable .limitUdcW ∧ Startable .limitIdcW ∧
      Startable .limitPdcW :=
  ⟨by decide, by decide, startable _, startable _, startable _, startable _⟩

theorem witness_ModeWriteSendsItsData :
    (0#16).toNat ∈ [0, 1, 2] ∧ (2#16).toNat ∈ [0, 1, 2] ∧ Startable .modeW := ⟨by decide, by decide, startable _⟩

theorem witness_ReadsSendZero :
    Startable .setpointR ∧ Startable .limitUdcR ∧ Startable .limitIdcR ∧ Startable .limitPdcR ∧ Startable .modeR ∧
      Startable .operationR ∧ Startable .statusR :=
  ⟨startable _, startable _, startable _, startable _, startable _, startable _, startable _⟩

theorem witness_ActualValueReadsSendZero :
    Startable .actPowerR ∧ Startable .actVoltageR ∧ Startable .actCurrentR ∧ Startable .actFrequencyR :=
  ⟨startable _, startable _, startable _, startable _⟩

theorem witness_RfSwitchSendsOneOrZero : Startable .operationW := startable _

theorem witness_ResetErrorSendsTheSentinel : Startable .resetError := startable _

theorem witness_OutOfRangeDataIsRefused :
    1000 < (1001#16).toNat ∧ 1000 < (0xFFFF#16).toNat ∧ 2 < (3#16).toNat ∧ Ready start closed :=
  ⟨by decide, by decide, by decide, start_ready⟩

theorem witness_UnmappedOperationIsUnsupported :
    (wireNameOf .rdapwr = some .actPowerR ∧ PassesCheck .rdapwr ∧
      wireOctet start.params.opcodeMap .actPowerR = none ∧ Ready start closed) ∧
      wireNameOf .rfon = some .operationW ∧ PassesCheck .rfon ∧
      wireOctet (unmapped opened).params.opcodeMap .operationW = none ∧ Ready (unmapped opened) open0 :=
  ⟨⟨rfl, trivial, rfl, start_ready⟩, rfl, trivial, rfl, rfl, rfl, rfl⟩

theorem witness_ClosedSessionGivesNotOpen :
    wireNameOf (.wrsp 1000#16) = some .setpointW ∧ PassesCheck (.wrsp 1000#16) ∧
      wireOctet start.params.opcodeMap .setpointW = some 0x01#8 ∧ closed.isOpen = false ∧ Ready start closed :=
  ⟨rfl, by show 1000 ≤ 1000; decide, rfl, rfl, start_ready⟩

theorem witness_GuardEntryOpensTheScope :
    (Ready start closed ∧ closed.guardActive = false ∧ closed.isOpen = false ∧
      start.ports[closed.portSel.toNat]? = some freePort ∧ connectionCause start.ports closed.portSel.toNat = none) ∧
      Ready opened open0 ∧ open0.guardActive = false ∧ open0.isOpen = true :=
  ⟨⟨start_ready, rfl, rfl, rfl, rfl⟩, opened_ready, rfl, rfl⟩

theorem witness_GuardMismatchIsGuardState :
    (guarded.guardActive = true ∧ Ready (withFirst guarded held0) guarded) ∧
      open0.guardActive = false ∧ Ready opened open0 := ⟨⟨rfl, guarded_ready⟩, rfl, opened_ready⟩

theorem witness_GuardExitSendsRfDisable :
    Ready (withFirst guarded held0) guarded ∧ guarded.guardActive = true ∧ guarded.isOpen = true ∧
      wireOctet (withFirst guarded held0).params.opcodeMap .operationW = some 0x0B#8 := ⟨guarded_ready, rfl, rfl, rfl⟩

theorem witness_GuardExitWithoutAFrameRecordsWhy :
    (Ready (unmapped (withFirst guarded held0)) guarded ∧ guarded.guardActive = true ∧
      wireOctet (unmapped (withFirst guarded held0)).params.opcodeMap .operationW = none ∧ guarded.isOpen = true ∧
      (unmapped (withFirst guarded held0)).ports[guarded.portSel.toNat]? = some held0) ∧
      Ready (start.setSession 0 { closed with guardActive := true }) { closed with guardActive := true } ∧
      closed.isOpen = false := ⟨⟨⟨rfl, rfl, rfl⟩, rfl, rfl, rfl, rfl⟩, ⟨rfl, rfl, rfl⟩, rfl⟩

theorem witness_FaultExitClosesWithoutAFrame :
    (Ready (withFirst guarded held0) guarded ∧ guarded.guardActive = true ∧ guarded.isOpen = true ∧
      (withFirst guarded held0).ports[guarded.portSel.toNat]? = some held0) ∧
      Ready (start.setSession 0 { closed with guardActive := true }) { closed with guardActive := true } ∧
      closed.isOpen = false := ⟨⟨guarded_ready, rfl, rfl, rfl⟩, ⟨rfl, rfl, rfl⟩, rfl⟩

/-- Session 0's engine in its guard exit, and with five octets collected, good and bad. -/
def exitEngine : Engine := (withFirst exiting held0).engine 0 exiting
def goodEngine : Engine :=
  opened.engine 0 { awaiting with rxcnt := 5#3, rxf := ⟨0x00#8, 0x0E#8, 0x43#8, 0x41#8, 0x92#8⟩ }
def badEngine : Engine :=
  opened.engine 0 { awaiting with rxcnt := 5#3, rxf := ⟨0x00#8, 0x0E#8, 0x43#8, 0x41#8, 0x99#8⟩ }

theorem witness_GuardExitSuppressesTheOutcome :
    exitEngine.ses.phase ≠ .idle ∧ exitEngine.ses.lastOp = 0x31#8 ∧ exitEngine.ses.isOpen = true ∧
      exitEngine.ports[exitEngine.ses.portSel.toNat]? = some held0 := ⟨nofun, rfl, rfl, rfl⟩

/-- Session 0's engine at its guard exit's read end, the response good and bad. -/
def goodExit : Engine :=
  (withFirst exiting held0).engine 0 { exiting with rxcnt := 5#3, rxf := ⟨0x00#8, 0x0B#8, 0x00#8, 0x00#8, 0x0B#8⟩ }
def badExit : Engine :=
  (withFirst exiting held0).engine 0 { exiting with rxcnt := 5#3, rxf := ⟨0x00#8, 0x0B#8, 0x00#8, 0x00#8, 0x0C#8⟩ }

theorem witness_ReadPhaseEndComparesTheChecksum :
    (goodEngine.ses.phase = .rx ∧ goodEngine.ses.rxcnt = 5#3 ∧ goodEngine.ses.lastOp ≠ 0x31#8 ∧
      goodEngine.ses.lastOp ≠ 0x32#8 ∧ goodEngine.ses.rxf.b4 = goodEngine.ses.rxf.expectedCk .sum8) ∧
      (badEngine.ses.phase = .rx ∧ badEngine.ses.rxcnt = 5#3 ∧ badEngine.ses.lastOp ≠ 0x31#8 ∧
        badEngine.ses.lastOp ≠ 0x32#8 ∧ badEngine.ses.rxf.b4 ≠ badEngine.ses.rxf.expectedCk .sum8) ∧
      (goodExit.ses.phase = .rx ∧ goodExit.ses.rxcnt = 5#3 ∧ goodExit.ses.lastOp = 0x31#8 ∧ goodExit.ses.isOpen = true ∧
        goodExit.ports[goodExit.ses.portSel.toNat]? = some held0 ∧
        goodExit.ses.rxf.b4 = goodExit.ses.rxf.expectedCk .sum8) ∧
      badExit.ses.phase = .rx ∧ badExit.ses.rxcnt = 5#3 ∧ badExit.ses.lastOp = 0x31#8 ∧ badExit.ses.isOpen = true ∧
      badExit.ports[badExit.ses.portSel.toNat]? = some held0 ∧
      badExit.ses.rxf.b4 ≠ badExit.ses.rxf.expectedCk .sum8 := by decide

/-- `s` with one event to come. -/
def facing (s : State) (i : Input) : State := { s with inputs := [i] }

/-- The invariant says nothing of the events to come. -/
theorem facing_inv {s : State} (i : Input) (h : s.Inv) : (facing s i).Inv :=
  ⟨h.sessions_count, h.ports_count, h.session_ok, h.port_ok, h.settled_ok⟩

/-- A guard exit one tick before its write timeout, and before its read timeout. -/
def lateExitSending : Session := { lateSending with guardActive := true, lastOp := 0x31#8 }
def lateExiting : Session := { exiting with cnt := 999#16, lastOp := 0x32#8 }

theorem lateExitSending_inv : (withFirst lateExitSending busyPort).Inv :=
  inv_of_two (x := lateExitSending) (y := other) rfl rfl
    ⟨by decide, by decide, by decide, by decide, by decide, by decide, by decide, by decide,
      fun _ => ⟨busyPort, rfl, rfl, rfl⟩⟩ (other_ok _)
    ⟨fun _ => ⟨lateExitSending, rfl, rfl, rfl⟩, nofun⟩ (freePort_ok _)
    ⟨fun _ => by decide, fun _ => ⟨busyPort, rfl, rfl, .inr (by decide)⟩, nofun⟩ (other_settled _)

theorem lateExiting_inv : (withFirst lateExiting held0).Inv :=
  reading_inv lateExiting ⟨by decide, by decide, by decide, by decide, by decide, by decide, by decide, by decide,
    fun _ => ⟨held0, rfl, rfl, rfl⟩⟩ rfl rfl rfl (by decide)

theorem witness_TickEndsAPhaseByTimeout :
    ((facing (withFirst lateSending busyPort) .tick).Inv ∧ lateSending.lastOp = 0x1E#8 ∧ lateSending.phase = .tx ∧
      lateSending.cnt.toNat + 1 = lateSending.wrT.toNat ∧
      answers (facing (withFirst lateSending busyPort) .tick) (fun _ => true) = true) ∧
      (facing (withFirst lateAwaiting held0) .tick).Inv ∧ lateAwaiting.lastOp = 0x1E#8 ∧ lateAwaiting.phase = .rx ∧
      lateAwaiting.cnt.toNat + 1 = lateAwaiting.rdT.toNat ∧
      answers (facing (withFirst lateAwaiting held0) .tick) (fun _ => true) = true :=
  ⟨⟨facing_inv _ lateSending_inv, rfl, rfl, by decide, by decide⟩, facing_inv _ lateAwaiting_inv, rfl, rfl, by decide,
    by decide⟩

/-- The guard-exit clauses: GDIS is 4 and 5 (section 3.6), the port is released. -/
theorem witness_TickEndsAPhaseByTimeout_guardExit :
    ((facing (withFirst lateExitSending busyPort) .tick).Inv ∧ lateExitSending.lastOp = 0x31#8 ∧
      lateExitSending.phase = .tx ∧ lateExitSending.cnt.toNat + 1 = lateExitSending.wrT.toNat ∧
      (withFirst lateExitSending busyPort).ports[lateExitSending.portSel.toNat]? = some busyPort ∧
      answers (facing (withFirst lateExitSending busyPort) .tick) (readReg · 0x004#11 == 0x31400004#32) = true) ∧
      (facing (withFirst lateExiting held0) .tick).Inv ∧ lateExiting.lastOp = 0x32#8 ∧ lateExiting.phase = .rx ∧
      lateExiting.cnt.toNat + 1 = lateExiting.rdT.toNat ∧
      (withFirst lateExiting held0).ports[lateExiting.portSel.toNat]? = some held0 ∧
      answers (facing (withFirst lateExiting held0) .tick) (readReg · 0x004#11 == 0x32540004#32) = true :=
  ⟨⟨facing_inv _ lateExitSending_inv, rfl, rfl, by decide, rfl, by decide⟩, facing_inv _ lateExiting_inv, rfl, rfl,
    by decide, rfl, by decide⟩

theorem witness_ReceivedCharacterGoesToTheHolder :
    opened.ports[1]? = some freePort ∧ freePort.owned = false ∧ opened.ports[0]? = some held0 ∧ held0.owned = true ∧
      opened.sessions[held0.owner.toNat]? = some open0 := ⟨rfl, rfl, rfl, rfl, rfl⟩

theorem witness_TransmitCompletionCountsOwnOctets :
    (withFirst sending busyPort).ports[0]? = some busyPort ∧ busyPort.txBusy = true ∧ busyPort.owned = true ∧
      (withFirst sending busyPort).sessions[busyPort.owner.toNat]? = some sending ∧
      (withFirst closed { freePort with txBusy := true }).ports[0]? = some { freePort with txBusy := true } ∧
      freePort.owned = false := ⟨rfl, rfl, rfl, rfl, rfl, rfl⟩

theorem witness_TickCountsBusySessions :
    start.sessions[0]? = some closed ∧ closed.phase = .idle ∧
      (withFirst { sending with cnt := 0xFFFF#16 } busyPort).sessions[0]? = some { sending with cnt := 0xFFFF#16 } ∧
      sending.phase ≠ .idle := ⟨rfl, rfl, rfl, nofun⟩

theorem witness_PresenceChangesNothingElse :
    (facing opened (.present 0 false)).Inv ∧ (facing opened (.present 0 false)).ports[0]? = some held0 :=
  ⟨facing_inv _ opened_inv, rfl⟩

theorem witness_ClockPeriodIsOneTick : start.tickDiv = 0 ∧ 0 < start.params.clkHz / 1000 := by decide

theorem witness_ResetSetsEveryRegister :
    (facing opened (.reset (some (.read 0x400#11)))).inputs = .reset (some (.read 0x400#11)) :: [] ∧
      answers (facing opened (.reset none)) (fun t => t.sessions == [closed, other]) = true := ⟨rfl, by decide⟩

theorem witness_ReadsChangeNoState :
    (facing (withFirst sending busyPort) (.host (.read 0x7FF#11))).Inv := facing_inv _ sending_inv

/-- Each kind of unused address, at its boundaries. -/
theorem witness_UnusedAddressesReadZeroAndIgnoreWrites :
    (0x03C#11).toNat < 0x400 ∧ (0x03C#11).toNat / 4 % 16 = 15 ∧ (0x080#11).toNat < 0x400 ∧
      start.sessions.length ≤ (0x080#11).toNat / 64 ∧ (0x3FF#11).toNat < 0x400 ∧
      start.sessions.length ≤ (0x3FF#11).toNat / 64 ∧ 0x414 ≤ (0x414#11).toNat ∧ 0x414 ≤ (0x7FF#11).toNat := by decide

theorem witness_LowAddressBitsAreIgnored : (0x004#11).toNat / 4 = (0x007#11).toNat / 4 := by decide

/-- For StatWriteClearsTheChosenFlags, ConfigurationIsFrozenWhileOpen and EnableAndHostFrameAreAlwaysWritable: a Closed,
an Open and a BUSY session. -/
theorem witness_StatWriteClearsTheChosenFlags : start.sessions[1]? = some other ∧ 1 < 8 := ⟨rfl, by decide⟩
theorem witness_ConfigurationIsFrozenWhileOpen :
    start.sessions[1]? = some other ∧ opened.sessions[0]? = some open0 ∧ 1 < 8 ∧ open0.isOpen = true ∧
      other.isOpen = false := ⟨rfl, rfl, by decide, rfl, rfl⟩
theorem witness_EnableAndHostFrameAreAlwaysWritable :
    (withFirst sending busyPort).sessions[0]? = some sending ∧ sending.busy = true ∧ 0 < 8 := ⟨rfl, rfl, by decide⟩

theorem witness_StatShowsTheSessionsFields :
    opened.sessions[0]? = some open0 ∧ start.sessions[1]? = some other ∧ 1 < 8 ∧ other.err = .noError ∧
      other.gdis = none ∧ (withFirst { closed with gdis := some .guardState } freePort).sessions[0]? =
        some { closed with gdis := some .guardState } ∧ other.phase = .idle := ⟨rfl, rfl, by decide, rfl, rfl, rfl, rfl⟩
theorem witness_StatusViewPacksTheStatusWord : start.sessions[1]? = some other ∧ 1 < 8 := ⟨rfl, by decide⟩
theorem witness_SessionRegistersShowTheirFields :
    start.sessions[1]? = some other ∧ 1 < 8 ∧ other.connCause = .noCause := ⟨rfl, by decide, rfl⟩

theorem witness_GlobalRegistersShowThePorts :
    start.sessions.length ≤ 8 ∧ start.ports.length ≤ 8 ∧ opened.ports[0]? = some held0 ∧
      opened.ports[1]? = some freePort ∧ opened.ports.length ≤ 2 := ⟨by decide, by decide, rfl, rfl, by decide⟩

theorem witness_InterruptFollowsDoneAndEnable :
    start.sessions.length ≤ 8 ∧ start.sessions[1]? = some other ∧ start.sessions.length ≤ 2 := ⟨by decide, rfl, by decide⟩

/-- For StepKeepsTheInvariant and ParametersNeverChange: steps that answer, from an idle, a busy and an exiting state. -/
theorem witness_StepKeepsTheInvariant :
    (facing opened (.host (.write 0x000#11 0x0000001E#32))).Inv ∧
      answers (facing opened (.host (.write 0x000#11 0x0000001E#32))) (fun _ => true) = true ∧
      (facing (withFirst sending busyPort) (.txDone 0)).Inv ∧
      answers (facing (withFirst sending busyPort) (.txDone 0)) (fun _ => true) = true ∧
      (facing (withFirst exiting held0) (.rxChar 0 0x0B#8 false)).Inv ∧
      answers (facing (withFirst exiting held0) (.rxChar 0 0x0B#8 false)) (fun _ => true) = true :=
  ⟨facing_inv _ opened_inv, by decide, facing_inv _ sending_inv, by decide, facing_inv _ exiting_inv, by decide⟩

theorem witness_ParametersNeverChange :
    answers (facing start (.reset none)) (fun _ => true) = true := by decide

theorem witness_SessionsDoNotInterfere :
    ((facing opened (.host (.write 0x000#11 0x00000002#32))).Inv ∧
      selectReg opened.sessions.length 0x000#11 = .session 0 .ctrl ∧ 1 ≠ 0 ∧
      answers (facing opened (.host (.write 0x000#11 0x00000002#32))) (fun _ => true) = true) ∧
      (facing (withFirst sending busyPort) (.txDone 0)).Inv ∧
      (withFirst sending busyPort).sessions[1]? = some other ∧ other.isOpen = false ∧
      answers (facing (withFirst sending busyPort) (.txDone 0)) (fun _ => true) = true :=
  ⟨⟨facing_inv _ opened_inv, rfl, by decide, by decide⟩, facing_inv _ sending_inv, rfl, rfl, by decide⟩

/-- Whether session 0's OPEN after the step is `v`. -/
def opensTo (s : State) (i : Input) (v : Bool) : Bool := answers (facing s i) fun t => t.sessions.head?.map (·.isOpen) == some v

/-- A CTRL write that opens, a CTRL write that closes, the end of a GEXITN and a Reset. -/
theorem witness_OnlyOpenAndCloseChangeOpen :
    ((facing start (.host (.write 0x000#11 0x00000030#32))).Inv ∧ closed.isOpen = false ∧
      opensTo start (.host (.write 0x000#11 0x00000030#32)) true = true) ∧
      ((facing opened (.host (.write 0x003#11 0x00000002#32))).Inv ∧ open0.isOpen = true ∧
        opensTo opened (.host (.write 0x003#11 0x00000002#32)) false = true) ∧
      ((facing (withFirst exiting held0) (.rxChar 0 0x0B#8 false)).Inv ∧ exiting.isOpen = true ∧
        opensTo (withFirst exiting held0) (.rxChar 0 0x0B#8 false) false = true) ∧
      (facing (withFirst sending busyPort) (.reset none)).Inv ∧ sending.isOpen = true ∧
      opensTo (withFirst sending busyPort) (.reset none) false = true :=
  ⟨⟨facing_inv _ start_inv, rfl, by decide⟩, ⟨facing_inv _ opened_inv, rfl, by decide⟩,
    ⟨facing_inv _ exiting_inv, rfl, by decide⟩, facing_inv _ sending_inv, rfl, by decide⟩

/-- A transaction with both timeouts at their least, 1 ms. -/
def hasty : Session := { sending with wrT := 1#16, rdT := 1#16 }

theorem hasty_inv : (withFirst hasty busyPort).Inv :=
  inv_of_two (x := hasty) (y := other) rfl rfl
    ⟨by decide, by decide, by decide, by decide, by decide, by decide, by decide, by decide,
      fun _ => ⟨busyPort, rfl, rfl, rfl⟩⟩ (other_ok _)
    ⟨fun _ => ⟨hasty, rfl, rfl, rfl⟩, nofun⟩ (freePort_ok _)
    ⟨fun _ => by decide, fun _ => ⟨busyPort, rfl, rfl, .inr (by decide)⟩, nofun⟩ (other_settled _)

theorem witness_EveryTransactionEndsInTime :
    (withFirst hasty busyPort).Inv ∧ (withFirst hasty busyPort).sessions[0]? = some hasty ∧ hasty.busy = true ∧
      hasty.wrT.toNat + hasty.rdT.toNat ≤ [Input.tick, .tick].count .tick ∧
      (Shown (after (withFirst hasty busyPort) [.tick, .tick]) fun _ => true) = some true :=
  ⟨hasty_inv, rfl, rfl, by decide, by decide⟩

/-- A character left in port 0's transmitter from before (R175), under an Open, idle session. -/
def leftover : State := withFirst open0 busyPort

theorem leftover_inv : leftover.Inv :=
  inv_of_two (x := open0) (y := other) rfl rfl
    ⟨by decide, by decide, by decide, by decide, by decide, by decide, by decide, by decide,
      fun _ => ⟨busyPort, rfl, rfl, rfl⟩⟩ (other_ok _)
    ⟨fun _ => ⟨open0, rfl, rfl, rfl⟩, nofun⟩ (freePort_ok _) ⟨nofun, nofun, nofun⟩ (other_settled _)

/-- The phase of session 0 after `exec`. -/
def phaseAfter (i : Instr) (s : State) : Option (Option Phase) := Shown (exec i s) fun u => u.sessions.head?.map (·.phase)

/-- The launching step, with an idle transmitter and with a busy one; then the ten events. -/
theorem witness_TransactionCompletesInTenEvents :
    ((facing opened (.host (.write 0x000#11 0x0000001E#32))).Inv ∧ opened.sessions[0]? = some open0 ∧
      (0x000#11).toNat / 4 = 16 * 0 ∧ decode 0x0000001E#32 = .ok .rdstat ∧ open0.busy = false ∧
      phaseAfter .rdstat opened = some (some .tx) ∧
      opened.ports[open0.portSel.toNat]? = some held0 ∧ held0.txBusy = false) ∧
      ((facing leftover (.host (.write 0x000#11 0x0000001E#32))).Inv ∧ phaseAfter .rdstat leftover = some (some .tx) ∧
        leftover.ports[open0.portSel.toNat]? = some busyPort ∧ busyPort.txBusy = true) ∧
      (withFirst sending busyPort).Inv ∧ (withFirst sending busyPort).sessions[0]? = some sending ∧
      sending.phase = .tx ∧ sending.txLoaded = 1#3 ∧ sending.txSent = 0#3 ∧ sending.rxcnt = 0#3 ∧
      sending.lastOp ≠ 0x31#8 ∧ sending.lastOp ≠ 0x32#8 :=
  ⟨⟨facing_inv _ opened_inv, rfl, by decide, rfl, rfl, by decide, rfl, rfl⟩,
    ⟨facing_inv _ leftover_inv, by decide, rfl, rfl⟩,
    sending_inv, rfl, rfl, rfl, rfl, rfl, by decide, by decide⟩

end Sys2Proof.Tests
end

/-! PROOFS. The statements about the whole machine: what a write to CTRL runs (R37), that no step changes the parameters
or the counts (R32), and that every transaction ends in time (R322). -/

namespace Sys2Proof.Machine

/-! ### The register a CTRL address selects -/

/-- R36, R96: the four byte addresses of session `k`'s first word select its CTRL register. -/
theorem selectReg_ctrl (n k : Nat) (a : Addr) (hk : k < n) (hn : n ≤ 8) (ha : a.toNat / 4 = 16 * k) :
    selectReg n a = .session k .ctrl := by
  have hblock : (a.extractLsb' 6 5).toNat = k := by
    simp only [BitVec.extractLsb'_toNat, Nat.shiftRight_eq_div_pow]
    omega
  have hoffset : (a.extractLsb' 2 4).toNat = 0 := by
    simp only [BitVec.extractLsb'_toNat, Nat.shiftRight_eq_div_pow]
    omega
  have hk16 : k < 16 := by omega
  simp [selectReg, hblock, hoffset, hk, hk16, sessionReg?]

/-- R37: a write to a CTRL register is the launch of its word. -/
theorem hostWrite_ctrl (k : Nat) (a : Addr) (w : Word) (s : State)
    (h : selectReg s.sessions.length a = .session k .ctrl) : hostWrite a w s = launchWord k w s := by
  simp [hostWrite, h]

/-- R221: the launch of a word that decodes is its operation's meaning, with the session selected. -/
theorem launchWord_ok (k : Nat) (w : Word) (i : Instr) (s : State) (h : decode w = .ok i) :
    launchWord k w s = exec i { s with sel := k } := by
  simp [launchWord, h]

/-- R311: the launch of a word with a reserved OP. -/
theorem launchWord_reserved (k : Nat) (w : Word) (op : Byte) (s : State) (h : decode w = .error (.reservedOp op)) :
    launchWord k w s = execReserved op { s with sel := k } := by
  simp [launchWord, h]

/-- A step with an event to come takes the oldest one. -/
theorem step_cons (s : State) (i : Input) (rest : List Input) (h : s.inputs = i :: rest) :
    step s = stepEvent i { s with inputs := rest } := by
  simp [step, h]

/-- Settles O8: the address selects CTRL, and the word's launch is its operation's meaning. -/
theorem stepRunsTheDecodedInstruction : Obligations.StepRunsTheDecodedInstruction := by
  intro s k a w rest i hin hk hn ha hdec
  have hsel := selectReg_ctrl s.sessions.length k a hk hn ha
  calc step s = thenSettle (hostWrite a w { s with inputs := rest }) := step_cons s _ rest hin
    _ = thenSettle (launchWord k w { s with inputs := rest }) := congrArg thenSettle (hostWrite_ctrl k a w _ hsel)
    _ = thenSettle (exec i { s with inputs := rest, sel := k }) := congrArg thenSettle (launchWord_ok k w i _ hdec)

/-! ### What one event can do -/

/-- The state an event leaves before `Settle`, for the events that a `Settle` ends (R11): one constructor for each thing
that can happen. -/
inductive EventEffect (s : State) : Input → State → Prop where
  /-- A CTRL write whose word names an operation (R37, R221). -/
  | command (a : Addr) (w : Word) (k : Nat) (i : Instr) (u : State)
      (hsel : selectReg s.sessions.length a = .session k .ctrl) (hdec : decode w = .ok i)
      (hexec : exec i { s with sel := k } = .next u) : EventEffect s (.host (.write a w)) u
  /-- A CTRL write whose word holds a reserved OP (R311). -/
  | reserved (a : Addr) (w : Word) (k : Nat) (op : Byte)
      (hsel : selectReg s.sessions.length a = .session k .ctrl) (hdec : decode w = .error (.reservedOp op)) :
      EventEffect s (.host (.write a w)) (State.launch op (endOp .illegalOp) { s with sel := k })
  /-- A write to a session register other than CTRL (R39 to R48). -/
  | writeSession (a : Addr) (v : Word) (k : Nat) (r : SessionReg)
      (hsel : selectReg s.sessions.length a = .session k r) (hr : r ≠ .ctrl) :
      EventEffect s (.host (.write a v)) { s with sessions := s.sessions.modify k (writeSessionReg v r) }
  /-- A write to a global register (R72, R95). -/
  | writeGlobal (a : Addr) (v : Word) (r : GlobalReg) (hsel : selectReg s.sessions.length a = .global r) :
      EventEffect s (.host (.write a v)) (writeGlobalReg v r s)
  /-- A write to an unused address (R51). -/
  | writeNothing (a : Addr) (v : Word) (hsel : selectReg s.sessions.length a = .nothing) :
      EventEffect s (.host (.write a v)) s
  /-- A read (R94). -/
  | read (a : Addr) : EventEffect s (.host (.read a)) (hostRead a s)
  /-- A character on a port that no session holds (R180). -/
  | rxDropped (p : Nat) (b : Byte) (ferr : Bool) (q : Port) (hq : s.ports[p]? = some q) (hown : q.owned = false) :
      EventEffect s (.rxChar p b ferr) s
  /-- A character delivered to the port's owner (R180). -/
  | rxDelivered (p : Nat) (b : Byte) (ferr : Bool) (q : Port) (hq : s.ports[p]? = some q) (hown : q.owned = true) :
      EventEffect s (.rxChar p b ferr) (s.onSession q.owner.toNat (receiveOctet b ferr))
  /-- A transmit completion on a port that no session holds (R182). -/
  | txDoneFree (p : Nat) (q : Port) (hq : s.ports[p]? = some q) (hbusy : q.txBusy = true) (hown : q.owned = false) :
      EventEffect s (.txDone p) (s.txIdle p)
  /-- A transmit completion counted by the port's owner (R182). -/
  | txDoneHeld (p : Nat) (q : Port) (hq : s.ports[p]? = some q) (hbusy : q.txBusy = true) (hown : q.owned = true) :
      EventEffect s (.txDone p) ((s.txIdle p).onSession q.owner.toNat countSent)
  /-- A new value of a port's PRESENT input (R178). -/
  | present (p : Nat) (v : Bool) (q : Port) (hq : s.ports[p]? = some q) :
      EventEffect s (.present p v) { s with ports := s.ports.modify p fun q => { q with present := v } }
  /-- A tick (R184). -/
  | tick : EventEffect s .tick (tickEvent s)
  /-- The clock edge that ends the divider's period (R318). -/
  | clkTick (hdue : tickDue s = true) : EventEffect s .clk (tickEvent s)

/-- What a host write answers is one of its effects (R95). -/
theorem hostWrite_effect (a : Addr) (v : Word) (s u : State) (h : hostWrite a v s = .next u) :
    EventEffect s (.host (.write a v)) u := by
  cases hsel : selectReg s.sessions.length a with
  | session k r =>
    by_cases hr : r = .ctrl
    · subst hr
      rw [hostWrite_ctrl k a v s hsel] at h
      cases hdec : decode v with
      | ok i => exact .command a v k i u hsel hdec (launchWord_ok k v i s hdec ▸ h)
      | error err =>
        obtain ⟨op⟩ := err
        rw [launchWord_reserved k v op s hdec] at h
        obtain rfl := Host.Outcome.next.inj h
        exact .reserved a v k op hsel hdec
    · have hw : hostWrite a v s = .next { s with sessions := s.sessions.modify k (writeSessionReg v r) } := by
        simp [hostWrite, hsel]
      obtain rfl := Host.Outcome.next.inj (hw.symm.trans h)
      exact .writeSession a v k r hsel hr
  | global r =>
    have hw : hostWrite a v s = .next (writeGlobalReg v r s) := by simp [hostWrite, hsel]
    obtain rfl := Host.Outcome.next.inj (hw.symm.trans h)
    exact .writeGlobal a v r hsel
  | nothing =>
    have hw : hostWrite a v s = .next s := by simp [hostWrite, hsel]
    obtain rfl := Host.Outcome.next.inj (hw.symm.trans h)
    exact .writeNothing a v hsel

/-- What `RxChar` answers is one of its effects (R180). -/
theorem rxCharEvent_effect (p : Nat) (b : Byte) (ferr : Bool) (s u : State) (h : rxCharEvent p b ferr s = .next u) :
    EventEffect s (.rxChar p b ferr) u := by
  rcases rxCharEvent_cases p b ferr s with ⟨-, he⟩ | ⟨q, hq, ⟨hown, he⟩ | ⟨hown, he⟩⟩
  · exact absurd (he.symm.trans h) nofun
  · obtain rfl := Host.Outcome.next.inj (he.symm.trans h)
    exact .rxDropped p b ferr q hq hown
  · obtain rfl := Host.Outcome.next.inj (he.symm.trans h)
    exact .rxDelivered p b ferr q hq hown

/-- What `TxDone` answers is one of its effects (R182). -/
theorem txDoneEvent_effect (p : Nat) (s u : State) (h : txDoneEvent p s = .next u) : EventEffect s (.txDone p) u := by
  rcases txDoneEvent_cases p s with ⟨-, he⟩ | ⟨q, hq, ⟨-, he⟩ | ⟨hb, hown, he⟩ | ⟨hb, hown, he⟩⟩
  · exact absurd (he.symm.trans h) nofun
  · exact absurd (he.symm.trans h) nofun
  · obtain rfl := Host.Outcome.next.inj (he.symm.trans h)
    exact .txDoneFree p q hq hb hown
  · obtain rfl := Host.Outcome.next.inj (he.symm.trans h)
    exact .txDoneHeld p q hq hb hown

/-- What `Present` answers is its effect (R178). -/
theorem presentEvent_effect (p : Nat) (v : Bool) (s u : State) (h : presentEvent p v s = .next u) :
    EventEffect s (.present p v) u := by
  cases hq : s.ports[p]? with
  | none => simp [presentEvent, hq] at h
  | some q =>
    simp only [presentEvent, hq] at h
    obtain rfl := Host.Outcome.next.inj h
    exact .present p v q hq

/-- Everything an event's step can do (R11): an effect and then `Settle`, a reset, or a clock edge that moves the divider
alone. -/
theorem stepEvent_cases (i : Input) (s t : State) (h : stepEvent i s = .next t) :
    (∃ u, EventEffect s i u ∧ t = settleAll u) ∨ (∃ during, i = .reset during ∧ t = resetEvent during s) ∨
      (i = .clk ∧ tickDue s = false ∧ t = { s with tickDiv := s.tickDiv + 1 }) := by
  cases i with
  | host access =>
    obtain ⟨u, hu, ht⟩ := thenSettle_next _ _ h
    cases access with
    | write a v => exact .inl ⟨u, hostWrite_effect a v s u hu, ht⟩
    | read a => exact .inl ⟨u, Host.Outcome.next.inj hu ▸ .read a, ht⟩
  | rxChar p b ferr =>
    obtain ⟨u, hu, ht⟩ := thenSettle_next _ _ h
    exact .inl ⟨u, rxCharEvent_effect p b ferr s u hu, ht⟩
  | txDone p =>
    obtain ⟨u, hu, ht⟩ := thenSettle_next _ _ h
    exact .inl ⟨u, txDoneEvent_effect p s u hu, ht⟩
  | tick => exact .inl ⟨_, .tick, (Host.Outcome.next.inj h).symm⟩
  | present p v =>
    obtain ⟨u, hu, ht⟩ := thenSettle_next _ _ h
    exact .inl ⟨u, presentEvent_effect p v s u hu, ht⟩
  | reset during => exact .inr (.inl ⟨during, rfl, (Host.Outcome.next.inj h).symm⟩)
  | clk =>
    cases hdue : tickDue s with
    | true =>
      simp only [stepEvent, hdue, if_true] at h
      exact .inl ⟨_, .clkTick hdue, (Host.Outcome.next.inj h).symm⟩
    | false =>
      simp only [stepEvent, hdue, Bool.false_eq_true, if_false] at h
      exact .inr (.inr ⟨rfl, rfl, (Host.Outcome.next.inj h).symm⟩)

/-! ### What an engine keeps: the number of ports -/

@[simp] theorem closeAction_ports_length (e : Engine) : (closeAction e).ports.length = e.ports.length := by
  rcases closeAction_cases e with ⟨-, h⟩ | ⟨-, h⟩ <;> simp [h]

@[simp] theorem guardFinish_ports_length (e : Engine) : (guardFinish e).ports.length = e.ports.length := by
  simp [guardFinish]

@[simp] theorem endOp_ports_length (c : ErrCode) (e : Engine) : (endOp c e).ports.length = e.ports.length := by
  rcases endOp_cases c e with ⟨-, h⟩ | ⟨-, -, h⟩ <;> simp [h]

@[simp] theorem openAction_ports_length (e : Engine) : (openAction e).1.ports.length = e.ports.length := by
  rcases openAction_cases e with ⟨-, h⟩ | ⟨-, ⟨-, h⟩ | ⟨q, -, ⟨-, h⟩ | ⟨-, -, h⟩ | ⟨-, -, -, h⟩ | ⟨-, -, -, h⟩⟩⟩ <;>
    simp [h, openFails]

@[simp] theorem complete_ports_length (e : Engine) : (complete e).ports.length = e.ports.length := by
  rcases complete_cases e with ⟨-, h⟩ | ⟨-, h⟩ <;> simp [h]

@[simp] theorem wireOp_ports_length (n : WireName) (d : Data) (v : Bool) (e : Engine) :
    (wireOp n d v e).ports.length = e.ports.length := by
  rcases wireOp_cases n d v e with ⟨-, h⟩ | ⟨-, -, h⟩ | ⟨c, -, -, ⟨-, h⟩ | ⟨-, h⟩⟩ <;> simp [h]

@[simp] theorem guardDisable_ports_length (e : Engine) : (guardDisable e).ports.length = e.ports.length := by
  rcases guardDisable_cases e with ⟨-, h⟩ | ⟨c, -, ⟨-, h⟩ | ⟨-, h⟩⟩ <;> simp [h, guardSkips]

@[simp] theorem handOff_ports_length (e : Engine) : (handOff e).ports.length = e.ports.length := by
  rcases handOff_cases e with h | ⟨q, -, -, -, -, h⟩ <;> simp [h]

@[simp] theorem writePhaseEnd_ports_length (e : Engine) : (writePhaseEnd e).ports.length = e.ports.length := by
  rcases writePhaseEnd_cases e with ⟨-, h⟩ | ⟨-, -, h⟩ <;> simp [h]

@[simp] theorem phaseOutcome_ports_length (e : Engine) : (phaseOutcome e).ports.length = e.ports.length := by
  rcases phaseOutcome_cases e with ⟨-, -, h⟩ | ⟨-, -, h⟩ | ⟨-, -, -, h⟩ | ⟨-, -, h⟩ <;> simp [h]

@[simp] theorem settle_ports_length (e : Engine) : (settle e).ports.length = e.ports.length := by
  by_cases hp : e.ses.phase = .idle
  · rw [settle_idle e hp]
  · simp [settle_busy e hp]

/-- A procedure that may rewrite ports but never adds or removes one (R32). -/
def KeepsPortCount (f : Engine → Engine) : Prop := ∀ e, (f e).ports.length = e.ports.length

theorem keepsPortCount_launchOn (op : Byte) (body : Engine → Engine) (h : KeepsPortCount body) :
    KeepsPortCount (launchOn op body) := by
  intro e
  cases hb : e.ses.busy with
  | true => simp [launchOn, hb]
  | false => simpa [launchOn, hb] using h _

theorem keepsPortCount_receiveOctet (b : Byte) (ferr : Bool) : KeepsPortCount (receiveOctet b ferr) := by
  intro e
  unfold receiveOctet
  split_ifs <;> rfl

theorem keepsPortCount_countSent : KeepsPortCount countSent := by
  intro e
  unfold countSent
  split_ifs <;> rfl

theorem keepsPortCount_sendBody (cmd : Byte) (data : Data) : KeepsPortCount (sendBody cmd data) := by
  intro e
  unfold sendBody
  split_ifs <;> simp

theorem keepsPortCount_genterBody : KeepsPortCount genterBody := by
  intro e
  unfold genterBody
  dsimp only
  split_ifs <;> simp

theorem keepsPortCount_guardExitBody : KeepsPortCount guardExitBody := by
  intro e
  unfold guardExitBody
  split_ifs <;> simp

theorem keepsPortCount_gexitfBody : KeepsPortCount gexitfBody := by
  intro e
  unfold gexitfBody
  split_ifs <;> simp

/-- Every operation is one launch of a body that keeps the number of ports (R221, R32). -/
theorem exec_keepsPortCount (i : Instr) :
    ∃ body, KeepsPortCount body ∧ ∀ s, exec i s = .next (s.launch (opOf i) body) := by
  cases i with
  | openSession => exact ⟨openBody, fun e => by simp [openBody], fun _ => rfl⟩
  | closeSession => exact ⟨closeBody, fun e => by simp [closeBody], fun _ => rfl⟩
  | send cmd data => exact ⟨_, keepsPortCount_sendBody cmd data, fun _ => rfl⟩
  | encode cmd data => exact ⟨encodeBody cmd data, fun e => by simp [encodeBody], fun _ => rfl⟩
  | decode => exact ⟨decodeBody, fun e => by simp [decodeBody], fun _ => rfl⟩
  | genter => exact ⟨_, keepsPortCount_genterBody, fun _ => rfl⟩
  | gexitn | gexite => exact ⟨_, keepsPortCount_guardExitBody, fun _ => rfl⟩
  | gexitf => exact ⟨_, keepsPortCount_gexitfBody, fun _ => rfl⟩
  | rsterr => exact ⟨_, fun e => wireOp_ports_length .resetError e.params.resetErrorData true e, fun _ => rfl⟩
  | wrsp | rdsp | wrlu | rdlu | wrli | rdli | wrlp | rdlp | wrmode | rdmode | rfon | rfoff | rdoper | rdstat | rdapwr
  | rdavol | rdacur | rdafrq => exact ⟨_, wireOp_ports_length _ _ _, fun _ => rfl⟩

/-! ### The parameters and the counts -/

/-- `t` is a state of the same block as `s`: its parameters and its counts are those of `s` (R6, R32). -/
structure State.SameBlock (s t : State) : Prop where
  params : t.params = s.params
  sessions : t.sessions.length = s.sessions.length
  ports : t.ports.length = s.ports.length

theorem State.SameBlock.trans {s t u : State} (h : s.SameBlock t) (h' : t.SameBlock u) : s.SameBlock u :=
  ⟨h'.params.trans h.params, h'.sessions.trans h.sessions, h'.ports.trans h.ports⟩

theorem onSession_sameBlock (k : Nat) (f : Engine → Engine) (s : State) (hf : KeepsPortCount f) :
    s.SameBlock (s.onSession k f) where
  params := by simp
  sessions := by simp
  ports := by
    rcases s.onSession_cases k f with ⟨-, h⟩ | ⟨x, -, h⟩
    · rw [h]
    · simp [h, hf _]

theorem launch_sameBlock (op : Byte) (body : Engine → Engine) (s : State) (hb : KeepsPortCount body) :
    s.SameBlock (s.launch op body) :=
  onSession_sameBlock s.sel _ s (keepsPortCount_launchOn op body hb)

theorem exec_sameBlock (i : Instr) (s u : State) (h : exec i s = .next u) : s.SameBlock u := by
  obtain ⟨body, hbody, hexec⟩ := exec_keepsPortCount i
  obtain rfl := Host.Outcome.next.inj ((hexec s).symm.trans h)
  exact launch_sameBlock (opOf i) body s hbody

theorem settleUpTo_sameBlock (n : Nat) (s : State) : s.SameBlock (settleUpTo n s) := by
  induction n with
  | zero => exact ⟨rfl, rfl, rfl⟩
  | succ n ih => exact ih.trans (onSession_sameBlock n settle _ settle_ports_length)

/-- Every effect of an event leaves the parameters and the counts as they were (R32). -/
theorem EventEffect.sameBlock {i : Input} {s u : State} (h : EventEffect s i u) : s.SameBlock u := by
  cases h with
  | command _ _ k i _ _ _ hexec =>
    obtain ⟨hparams, hsessions, hports⟩ := exec_sameBlock i _ u hexec
    exact ⟨hparams, hsessions, hports⟩
  | reserved _ _ k op =>
    obtain ⟨hparams, hsessions, hports⟩ :=
      launch_sameBlock op (endOp .illegalOp) { s with sel := k } (endOp_ports_length .illegalOp)
    exact ⟨hparams, hsessions, hports⟩
  | writeSession => exact ⟨rfl, by simp, rfl⟩
  | writeGlobal _ _ r => cases r <;> exact ⟨rfl, rfl, by simp [writeGlobalReg, storePortEnable]⟩
  | writeNothing => exact ⟨rfl, rfl, rfl⟩
  | read => exact ⟨rfl, rfl, rfl⟩
  | rxDropped => exact ⟨rfl, rfl, rfl⟩
  | rxDelivered _ b ferr => exact onSession_sameBlock _ _ s (keepsPortCount_receiveOctet b ferr)
  | txDoneFree => exact ⟨rfl, rfl, by simp⟩
  | txDoneHeld p =>
    have hidle : s.SameBlock (s.txIdle p) := ⟨rfl, rfl, by simp⟩
    exact hidle.trans (onSession_sameBlock _ _ _ keepsPortCount_countSent)
  | present => exact ⟨rfl, rfl, by simp⟩
  | tick => exact ⟨rfl, by simp [tickEvent], rfl⟩
  | clkTick => exact ⟨rfl, by simp [tickEvent], rfl⟩

theorem resetEvent_sameBlock (during : Option BusAccess) (s : State) : s.SameBlock (resetEvent during s) := by
  rcases during with - | ⟨a, v⟩ | ⟨a⟩ <;>
    exact ⟨rfl, by simp [resetEvent, resetState], by simp [resetEvent, resetState]⟩

theorem stepEvent_sameBlock (i : Input) (s t : State) (h : stepEvent i s = .next t) : s.SameBlock t := by
  rcases stepEvent_cases i s t h with ⟨u, hu, rfl⟩ | ⟨during, -, rfl⟩ | ⟨-, -, rfl⟩
  · exact hu.sameBlock.trans (settleUpTo_sameBlock _ u)
  · exact resetEvent_sameBlock during s
  · exact ⟨rfl, rfl, rfl⟩

/-- Settles O55: each effect of an event, `Settle` and a reset leave the parameters and the counts as they
were. -/
theorem parametersNeverChange : Obligations.ParametersNeverChange := by
  intro s t h
  cases hin : s.inputs with
  | nil =>
    simp only [step, hin] at h
    obtain rfl := Host.Outcome.next.inj h
    exact ⟨rfl, rfl, rfl⟩
  | cons i rest =>
    obtain ⟨hparams, hsessions, hports⟩ := stepEvent_sameBlock i _ t ((step_cons s i rest hin).symm.trans h)
    exact ⟨hparams, hsessions, hports⟩

/-! ### What is still to come is read by no event -/

/-- `s` with other events still to come. -/
def State.withInputs (s : State) (l : List Input) : State := { s with inputs := l }

@[simp] theorem State.withInputs_sessions (s : State) (l : List Input) : (s.withInputs l).sessions = s.sessions := rfl
@[simp] theorem State.withInputs_ports (s : State) (l : List Input) : (s.withInputs l).ports = s.ports := rfl

/-- An answer with other events still to come. -/
def Result.withInputs (r : Result) (l : List Input) : Result :=
  match r with
  | .next s => .next (s.withInputs l)
  | .fault f => .fault f
  | .refused f => .refused f

theorem onSession_withInputs (k : Nat) (f : Engine → Engine) (s : State) (l : List Input) :
    (s.withInputs l).onSession k f = (s.onSession k f).withInputs l := by
  cases hx : s.sessions[k]? with
  | none => rw [State.onSession_none k f (s.withInputs l) hx, State.onSession_none k f s hx]
  | some x =>
    rw [State.onSession_some k f (s.withInputs l) x hx, State.onSession_some k f s x hx]
    rfl

theorem launchWord_withInputs (k : Nat) (w : Word) (s : State) (l : List Input) :
    launchWord k w (s.withInputs l) = (launchWord k w s).withInputs l := by
  have hlaunch (op : Byte) (body : Engine → Engine) :
      State.launch op body { s.withInputs l with sel := k } = (State.launch op body { s with sel := k }).withInputs l :=
    onSession_withInputs k _ { s with sel := k } l
  cases hdec : decode w with
  | ok i =>
    obtain ⟨body, hexec⟩ := exec_is_launch i
    rw [launchWord_ok k w i _ hdec, launchWord_ok k w i s hdec, hexec, hexec, hlaunch]
    rfl
  | error err =>
    obtain ⟨op⟩ := err
    rw [launchWord_reserved k w op _ hdec, launchWord_reserved k w op s hdec]
    exact congrArg Host.Outcome.next (hlaunch op _)

theorem hostWrite_withInputs (a : Addr) (v : Word) (s : State) (l : List Input) :
    hostWrite a v (s.withInputs l) = (hostWrite a v s).withInputs l := by
  cases hsel : selectReg s.sessions.length a with
  | session k r =>
    by_cases hr : r = .ctrl
    · subst hr
      rw [hostWrite_ctrl k a v (s.withInputs l) hsel, hostWrite_ctrl k a v s hsel, launchWord_withInputs]
    · simp [hostWrite, hsel, Result.withInputs, State.withInputs]
  | global r => cases r <;> simp [hostWrite, hsel, writeGlobalReg, Result.withInputs, State.withInputs]
  | nothing => simp [hostWrite, hsel, Result.withInputs, State.withInputs]

theorem rxCharEvent_withInputs (p : Nat) (b : Byte) (ferr : Bool) (s : State) (l : List Input) :
    rxCharEvent p b ferr (s.withInputs l) = (rxCharEvent p b ferr s).withInputs l := by
  cases hq : s.ports[p]? with
  | none => simp [rxCharEvent, hq, Result.withInputs]
  | some q => cases ho : q.owned <;> simp [rxCharEvent, hq, ho, Result.withInputs, onSession_withInputs]

theorem txDoneEvent_withInputs (p : Nat) (s : State) (l : List Input) :
    txDoneEvent p (s.withInputs l) = (txDoneEvent p s).withInputs l := by
  have hidle : (s.withInputs l).txIdle p = (s.txIdle p).withInputs l := rfl
  cases hq : s.ports[p]? with
  | none => simp [txDoneEvent, hq, Result.withInputs]
  | some q =>
    cases hb : q.txBusy with
    | false => simp [txDoneEvent, hq, hb, Result.withInputs]
    | true => cases ho : q.owned <;> simp [txDoneEvent, hq, hb, ho, hidle, Result.withInputs, onSession_withInputs]

theorem presentEvent_withInputs (p : Nat) (v : Bool) (s : State) (l : List Input) :
    presentEvent p v (s.withInputs l) = (presentEvent p v s).withInputs l := by
  cases hq : s.ports[p]? <;> simp [presentEvent, hq, Result.withInputs, State.withInputs]

theorem settleUpTo_withInputs (n : Nat) (s : State) (l : List Input) :
    settleUpTo n (s.withInputs l) = (settleUpTo n s).withInputs l := by
  induction n with
  | zero => rfl
  | succ n ih => rw [settleUpTo_succ, settleUpTo_succ, ih, onSession_withInputs]

/-- Where an event's effect does not read the events to come, neither does the `Settle` after it. -/
theorem thenSettle_withInputs (r r' : Result) (l : List Input) (h : r' = r.withInputs l) :
    thenSettle r' = (thenSettle r).withInputs l := by
  subst h
  cases r with
  | next s => exact congrArg Host.Outcome.next (settleUpTo_withInputs _ s l)
  | fault f => rfl
  | refused f => rfl

/-- No rule reads the events still to come (log 1): an event does the same whatever they are. -/
theorem stepEvent_withInputs (i : Input) (s : State) (l : List Input) :
    stepEvent i (s.withInputs l) = (stepEvent i s).withInputs l := by
  have htick : thenSettle (.next (tickEvent (s.withInputs l))) = (thenSettle (.next (tickEvent s))).withInputs l :=
    thenSettle_withInputs (.next (tickEvent s)) (.next (tickEvent (s.withInputs l))) l rfl
  cases i with
  | host access =>
    cases access with
    | write a v => exact thenSettle_withInputs _ _ l (hostWrite_withInputs a v s l)
    | read a => exact thenSettle_withInputs (.next (hostRead a s)) (.next (hostRead a (s.withInputs l))) l rfl
  | rxChar p b ferr => exact thenSettle_withInputs _ _ l (rxCharEvent_withInputs p b ferr s l)
  | txDone p => exact thenSettle_withInputs _ _ l (txDoneEvent_withInputs p s l)
  | tick => exact htick
  | present p v => exact thenSettle_withInputs _ _ l (presentEvent_withInputs p v s l)
  | reset during => rcases during with - | ⟨a, v⟩ | ⟨a⟩ <;> rfl
  | clk =>
    have hdue : tickDue (s.withInputs l) = tickDue s := rfl
    cases h : tickDue s with
    | true => simpa [stepEvent, hdue, h] using htick
    | false => simp only [stepEvent, hdue, h, Bool.false_eq_true, if_false]; rfl

/-! ### Runs over a list of events -/

theorem after_nil (s : State) : after s [] = .next (s.withInputs []) := rfl

/-- The first step of a run over `i :: es`. -/
theorem core_step_cons (s : State) (i : Input) (es : List Input) :
    Sys2Proof.core.step { s with inputs := i :: es } = (stepEvent i s).withInputs es :=
  stepEvent_withInputs i s es

/-- A run whose first event answers goes on from there. -/
theorem after_cons_next (s u : State) (i : Input) (es : List Input) (h : stepEvent i s = .next u) :
    after s (i :: es) = after u es := by
  simp only [after, List.length_cons, Host.Core.run, core_step_cons, h]
  rfl

/-- A run that answers has answered its first event. -/
theorem after_cons_answers (s t : State) (i : Input) (es : List Input) (h : after s (i :: es) = .next t) :
    ∃ u, stepEvent i s = .next u ∧ after u es = .next t := by
  cases hi : stepEvent i s with
  | next u => exact ⟨u, rfl, after_cons_next s u i es hi ▸ h⟩
  | fault f => simp [after, Host.Core.run, core_step_cons, hi, Result.withInputs] at h
  | refused r => simp [after, Host.Core.run, core_step_cons, hi, Result.withInputs] at h

/-! ### A transaction in progress -/

/-- A session with a transaction in progress: R35 (a) and (b) for a BUSY session, with no word about its ports. -/
structure Session.Transacting (x : Session) : Prop where
  busy : x.busy = true
  isOpen : x.isOpen = true
  phase : x.phase ≠ .idle

theorem Session.Transacting.phase_cases {x : Session} (h : x.Transacting) : x.phase = .tx ∨ x.phase = .rx := by
  cases hp : x.phase with
  | idle => exact absurd hp h.phase
  | tx => exact .inl rfl
  | rx => exact .inr rfl

/-- The session's phase has not timed out (R185). -/
structure Session.BeforeTimeout (x : Session) : Prop where
  tx : x.phase = .tx → x.cnt.toNat < x.wrT.toNat
  rx : x.phase = .rx → x.cnt.toNat < x.rdT.toNat

/-- The most ticks the transaction in progress can still take: what is left of the write phase's time and then the whole
read phase's, or what is left of the read phase's (R185). -/
def Session.ticksLeft (x : Session) : Nat :=
  match x.phase with
  | .idle => 0
  | .tx => (x.wrT.toNat - x.cnt.toNat) + x.rdT.toNat
  | .rx => x.rdT.toNat - x.cnt.toNat

theorem ticksLeft_tx (x : Session) (h : x.phase = .tx) :
    x.ticksLeft = (x.wrT.toNat - x.cnt.toNat) + x.rdT.toNat := by simp [Session.ticksLeft, h]

theorem ticksLeft_rx (x : Session) (h : x.phase = .rx) : x.ticksLeft = x.rdT.toNat - x.cnt.toNat := by
  simp [Session.ticksLeft, h]

theorem ticksLeft_le (x : Session) : x.ticksLeft ≤ x.wrT.toNat + x.rdT.toNat := by
  unfold Session.ticksLeft
  split <;> omega

/-- A transaction that has not timed out has a tick left. -/
theorem ticksLeft_pos (x : Session) (hx : x.Transacting) (ht : x.BeforeTimeout) : 0 < x.ticksLeft := by
  rcases hx.phase_cases with hp | hp
  · have := ht.tx hp; rw [ticksLeft_tx x hp]; omega
  · have := ht.rx hp; rw [ticksLeft_rx x hp]; omega

/-- `y` is `x` but for fields that no timeout looks at. -/
structure Session.SameTiming (x y : Session) : Prop where
  busy : y.busy = x.busy
  isOpen : y.isOpen = x.isOpen
  phase : y.phase = x.phase
  cnt : y.cnt = x.cnt
  wrT : y.wrT = x.wrT
  rdT : y.rdT = x.rdT

theorem Session.SameTiming.refl (x : Session) : x.SameTiming x := ⟨rfl, rfl, rfl, rfl, rfl, rfl⟩

theorem Session.SameTiming.transacting {x y : Session} (h : x.SameTiming y) (hx : x.Transacting) : y.Transacting :=
  ⟨h.busy.trans hx.busy, h.isOpen.trans hx.isOpen, h.phase ▸ hx.phase⟩

theorem Session.SameTiming.ticksLeft {x y : Session} (h : x.SameTiming y) : y.ticksLeft = x.ticksLeft := by
  simp only [Session.ticksLeft, h.phase, h.cnt, h.wrT, h.rdT]

/-! ### What `Settle` makes of it -/

theorem guardFinish_busy (e : Engine) : (guardFinish e).ses.busy = false := rfl

/-- `End` leaves the session not BUSY (R306). -/
theorem endOp_busy (c : ErrCode) (e : Engine) : (endOp c e).ses.busy = false := by
  rcases endOp_cases c e with ⟨-, h⟩ | ⟨-, -, h⟩ <;> simp [h, guardFinish_busy]

theorem complete_busy (e : Engine) : (complete e).ses.busy = false := by
  rcases complete_cases e with ⟨-, h⟩ | ⟨-, h⟩ <;> rw [h, endOp_busy]

/-- The hand-off loads an octet and leaves the timing alone (R183). -/
theorem handOff_sameTiming (e : Engine) : e.ses.SameTiming (handOff e).ses := by
  rcases handOff_cases e with h | ⟨q, -, -, -, -, h⟩
  · exact h.symm ▸ .refl e.ses
  · rw [h]
    exact ⟨rfl, rfl, rfl, rfl, rfl, rfl⟩

/-- The end of the write phase gives the transaction no more time than it had (R186). -/
theorem writePhaseEnd_ticksLeft (e : Engine) (he : e.ses.Transacting) :
    (writePhaseEnd e).ses.Transacting ∧ (writePhaseEnd e).ses.ticksLeft ≤ e.ses.ticksLeft := by
  rcases writePhaseEnd_cases e with ⟨-, h⟩ | ⟨hp, -, h⟩
  · rw [h]
    exact ⟨he, le_rfl⟩
  · rw [h, ticksLeft_tx e.ses hp, ticksLeft_rx _ rfl]
    exact ⟨⟨he.busy, he.isOpen, nofun⟩, by simp⟩

/-- A phase ends or has not timed out (R185, R188). -/
theorem phaseOutcome_ends_or_waits (e : Engine) :
    (phaseOutcome e).ses.busy = false ∨ (phaseOutcome e = e ∧ e.ses.BeforeTimeout) := by
  rcases phaseOutcome_cases e with ⟨-, -, h⟩ | ⟨-, -, h⟩ | ⟨-, -, -, h⟩ | ⟨hrx, htx, h⟩
  · exact .inl (h ▸ complete_busy e)
  · exact .inl (h ▸ endOp_busy _ e)
  · exact .inl (h ▸ endOp_busy _ e)
  · exact .inr ⟨h, fun hp => by simpa [BitVec.le_def] using htx hp, fun hp => by
      simpa [BitVec.le_def] using (hrx hp).2⟩

/-- After an event's `Settle` a session is not BUSY, or its transaction goes on within its time, with at most `n` ticks
left. -/
def Session.EndsWithin (n : Nat) (x : Session) : Prop :=
  x.busy = false ∨ (x.Transacting ∧ x.BeforeTimeout ∧ x.ticksLeft ≤ n)

/-- `Settle` ends a transaction or leaves it within its time (R188). -/
theorem settle_endsWithin (e : Engine) (he : e.ses.Transacting) : (settle e).ses.EndsWithin e.ses.ticksLeft := by
  rw [settle_busy e he.phase]
  have hload := handOff_sameTiming e
  obtain ⟨hw, hle⟩ := writePhaseEnd_ticksLeft (handOff e) (hload.transacting he)
  rcases phaseOutcome_ends_or_waits (writePhaseEnd (handOff e)) with hend | ⟨hwait, ht⟩
  · exact .inl hend
  · rw [hwait]
    exact .inr ⟨hw, ht, hle.trans hload.ticksLeft.le⟩

/-- Session `k` is settled once, when its turn comes (R11). -/
theorem settleUpTo_session (n k : Nat) (s : State) (h : k < n) :
    (settleUpTo n s).sessions[k]? = (settleUpTo (k + 1) s).sessions[k]? := by
  induction n with
  | zero => exact absurd h (Nat.not_lt_zero k)
  | succ n ih =>
    rcases Nat.lt_succ_iff_lt_or_eq.mp h with hlt | rfl
    · rw [settleUpTo_succ, State.onSession_other n k settle _ hlt.ne, ih hlt]
    · rfl

/-- The record `Settle` of every session leaves session `k`: one `Settle` of the record it had (R11). -/
theorem settleAll_session (s : State) (k : Nat) (x : Session) (h : s.sessions[k]? = some x) :
    ∃ e : Engine, e.ses = x ∧ (settleAll s).sessions[k]? = some (settle e).ses := by
  have hlt : k < s.sessions.length := (List.getElem?_eq_some_iff.mp h).1
  have hbefore : (settleUpTo k s).sessions[k]? = some x := (settleUpTo_later k k s le_rfl).trans h
  refine ⟨(settleUpTo k s).engine k x, rfl, ?_⟩
  calc (settleAll s).sessions[k]? = (settleUpTo (k + 1) s).sessions[k]? := settleUpTo_session _ k s hlt
    _ = _ := State.onSession_self k settle _ x hbefore

/-! ### What an event makes of it -/

/-- What a procedure of session `j` leaves in session `k`'s record. -/
theorem onSession_sameTiming (j k : Nat) (f : Engine → Engine) (s : State) (x : Session)
    (hf : ∀ e, e.ses = x → x.SameTiming (f e).ses) (hx : s.sessions[k]? = some x) :
    ∃ y, (s.onSession j f).sessions[k]? = some y ∧ x.SameTiming y := by
  rcases eq_or_ne k j with rfl | hne
  · exact ⟨_, State.onSession_self k f s x hx, hf _ rfl⟩
  · exact ⟨x, (State.onSession_other j k f s hne).trans hx, .refl x⟩

/-- A CTRL write on a BUSY session sets OVERRUN alone (R313). -/
theorem launchOn_sameTiming (op : Byte) (body : Engine → Engine) (e : Engine) (h : e.ses.busy = true) :
    e.ses.SameTiming (launchOn op body e).ses := by
  rw [launchOn, if_pos h]
  exact ⟨rfl, rfl, rfl, rfl, rfl, rfl⟩

theorem launch_sameTiming (op : Byte) (body : Engine → Engine) (s : State) (k : Nat) (x : Session)
    (hx : s.sessions[k]? = some x) (hb : x.busy = true) :
    ∃ y, (s.launch op body).sessions[k]? = some y ∧ x.SameTiming y :=
  onSession_sameTiming s.sel k _ s x (fun e he => he ▸ launchOn_sameTiming op body e (he.symm ▸ hb)) hx

/-- No register write reaches the timing of an Open session: TMO is frozen (R42). -/
theorem writeSessionReg_sameTiming (v : Word) (r : SessionReg) (x : Session) (h : x.isOpen = true) :
    x.SameTiming (writeSessionReg v r x) := by
  cases r with
  | cfg | tmo => simpa [writeSessionReg, h] using Session.SameTiming.refl x
  | ctrl | stat | ie | resp | cksum | txf0 | txf1 | rxf0 | rxf1 | cin0 | cin1 | sdec | diag =>
    exact ⟨rfl, rfl, rfl, rfl, rfl, rfl⟩

theorem receiveOctet_sameTiming (b : Byte) (ferr : Bool) (e : Engine) :
    e.ses.SameTiming (receiveOctet b ferr e).ses := by
  unfold receiveOctet
  split_ifs <;> exact ⟨rfl, rfl, rfl, rfl, rfl, rfl⟩

theorem countSent_sameTiming (e : Engine) : e.ses.SameTiming (countSent e).ses := by
  unfold countSent
  split_ifs <;> exact ⟨rfl, rfl, rfl, rfl, rfl, rfl⟩

/-- Below its ceiling CNT counts a tick (R184). -/
theorem tickSession_counts (x : Session) (hp : x.phase ≠ .idle) (hlt : x.cnt.toNat < 0xFFFF) :
    ∃ c : Data, c.toNat = x.cnt.toNat + 1 ∧ tickSession x = { x with cnt := c } := by
  have hne : x.cnt ≠ 0xFFFF#16 := by bv_omega
  exact ⟨x.cnt + 1#16, by bv_omega, by simp [tickSession, hp, hne]⟩

/-- A tick shortens the time of a transaction that has not timed out (R184): CNT is below a timeout, so below its
ceiling. -/
theorem tickSession_ticksLeft (x : Session) (hx : x.Transacting) (ht : x.BeforeTimeout) :
    (tickSession x).Transacting ∧ (tickSession x).ticksLeft + 1 ≤ x.ticksLeft := by
  have hlt : x.cnt.toNat < 0xFFFF := by
    rcases hx.phase_cases with hp | hp
    · have := ht.tx hp; omega
    · have := ht.rx hp; omega
  obtain ⟨c, hc, htick⟩ := tickSession_counts x hx.phase hlt
  rw [htick]
  refine ⟨⟨hx.busy, hx.isOpen, hx.phase⟩, ?_⟩
  rcases hx.phase_cases with hp | hp
  · have hbound := ht.tx hp
    rw [ticksLeft_tx x hp, ticksLeft_tx { x with cnt := c } hp]
    dsimp only
    omega
  · have hbound := ht.rx hp
    rw [ticksLeft_rx x hp, ticksLeft_rx { x with cnt := c } hp]
    dsimp only
    omega

/-- An event is a tick, or leaves the timing of a transaction alone until its `Settle`. -/
theorem EventEffect.tick_or_sameTiming {i : Input} {s u : State} (h : EventEffect s i u) (k : Nat) (x : Session)
    (hk : s.sessions[k]? = some x) (hx : x.Transacting) :
    u = tickEvent s ∨ (i ≠ .tick ∧ ∃ y, u.sessions[k]? = some y ∧ x.SameTiming y) := by
  have unchanged (hu : u.sessions = s.sessions) : ∃ y, u.sessions[k]? = some y ∧ x.SameTiming y :=
    ⟨x, hu ▸ hk, .refl x⟩
  cases h with
  | tick => exact .inl rfl
  | clkTick => exact .inl rfl
  | command _ _ j i _ _ _ hexec =>
    obtain ⟨body, hlaunch⟩ := exec_is_launch i
    obtain rfl := Host.Outcome.next.inj ((hlaunch _).symm.trans hexec)
    exact .inr ⟨nofun, launch_sameTiming _ body { s with sel := j } k x hk hx.busy⟩
  | reserved _ _ j op => exact .inr ⟨nofun, launch_sameTiming op _ { s with sel := j } k x hk hx.busy⟩
  | writeSession _ v j r =>
    refine .inr ⟨nofun, ?_⟩
    rcases eq_or_ne j k with rfl | hne
    · exact ⟨writeSessionReg v r x, by simp [hk], writeSessionReg_sameTiming v r x hx.isOpen⟩
    · exact ⟨x, by simp [hne, hk], .refl x⟩
  | writeGlobal _ _ r => exact .inr ⟨nofun, unchanged (by cases r <;> rfl)⟩
  | writeNothing => exact .inr ⟨nofun, unchanged rfl⟩
  | read => exact .inr ⟨nofun, unchanged rfl⟩
  | rxDropped => exact .inr ⟨nofun, unchanged rfl⟩
  | rxDelivered _ b ferr =>
    exact .inr ⟨nofun, onSession_sameTiming _ k _ s x (fun e he => he ▸ receiveOctet_sameTiming b ferr e) hk⟩
  | txDoneFree => exact .inr ⟨nofun, unchanged rfl⟩
  | txDoneHeld p =>
    exact .inr ⟨nofun, onSession_sameTiming _ k _ (s.txIdle p) x (fun e he => he ▸ countSent_sameTiming e) hk⟩
  | present => exact .inr ⟨nofun, unchanged rfl⟩

/-- Before its `Settle`, an event leaves a transaction in progress, and a tick has shortened its time by one. -/
theorem EventEffect.transacting {i : Input} {s u : State} (h : EventEffect s i u) (k : Nat) (x : Session)
    (hk : s.sessions[k]? = some x) (hx : x.Transacting) (ht : x.BeforeTimeout) :
    ∃ y, u.sessions[k]? = some y ∧ y.Transacting ∧ y.ticksLeft + [i].count .tick ≤ x.ticksLeft := by
  rcases h.tick_or_sameTiming k x hk hx with rfl | ⟨hi, y, hy, hxy⟩
  · have hone : [i].count .tick ≤ 1 := List.count_le_length
    obtain ⟨htr, hle⟩ := tickSession_ticksLeft x hx ht
    exact ⟨tickSession x, by simp [tickEvent, hk], htr, by omega⟩
  · exact ⟨y, hy, hxy.transacting hx, by simp [hi, hxy.ticksLeft]⟩

/-- Reset leaves no session BUSY (R351). -/
theorem resetEvent_busy (during : Option BusAccess) (s : State) (k : Nat) (h : k < s.sessions.length) :
    ∃ y, (resetEvent during s).sessions[k]? = some y ∧ y.busy = false := by
  refine ⟨Session.reset s.ports.length k, ?_, rfl⟩
  rcases during with - | ⟨a, v⟩ | ⟨a⟩ <;> simp [resetEvent, resetState, h]

/-- One step of a transaction: it ends, or goes on with no more ticks left than before, one less after a tick. -/
theorem stepEvent_endsWithin (i : Input) (s t : State) (h : stepEvent i s = .next t) (k : Nat) (x : Session)
    (hk : s.sessions[k]? = some x) (hx : x.Transacting) (ht : x.BeforeTimeout) :
    ∃ y, t.sessions[k]? = some y ∧ y.EndsWithin (x.ticksLeft - [i].count .tick) := by
  rcases stepEvent_cases i s t h with ⟨u, hu, rfl⟩ | ⟨during, -, rfl⟩ | ⟨rfl, -, rfl⟩
  · obtain ⟨y, hy, hty, hle⟩ := hu.transacting k x hk hx ht
    obtain ⟨e, rfl, he⟩ := settleAll_session u k y hy
    refine ⟨_, he, (settle_endsWithin e hty).imp_right ?_⟩
    rintro ⟨htr, hbt, hn⟩
    exact ⟨htr, hbt, by omega⟩
  · obtain ⟨y, hy, hb⟩ := resetEvent_busy during s k (List.getElem?_eq_some_iff.mp hk).1
    exact ⟨y, hy, .inl hb⟩
  · exact ⟨x, hk, .inr ⟨hx, ht, le_rfl⟩⟩

/-! ### Every transaction ends in time -/

/-- A run that holds as many ticks as a transaction has left ends it: by induction on the events, the ticks left going
down with the ticks still to come. -/
theorem transaction_ends (k : Nat) (t : State) (es : List Input) (s : State) (x : Session)
    (hk : s.sessions[k]? = some x) (hx : x.Transacting) (ht : x.BeforeTimeout) (hticks : x.ticksLeft ≤ es.count .tick)
    (hrun : after s es = .next t) :
    ∃ (n : Nat) (u : State) (y : Session), n ≤ es.length ∧ after s (es.take n) = .next u ∧
      u.sessions[k]? = some y ∧ y.busy = false := by
  induction es generalizing s x with
  | nil =>
    have hpos := ticksLeft_pos x hx ht
    rw [List.count_nil] at hticks
    omega
  | cons i es ih =>
    obtain ⟨u, hi, hrest⟩ := after_cons_answers s t i es hrun
    obtain ⟨y, hy, hend | ⟨hty, hby, hleft⟩⟩ := stepEvent_endsWithin i s u hi k x hk hx ht
    · exact ⟨1, u.withInputs [], y, by simp, after_cons_next s u i [] hi, hy, hend⟩
    · have hcount : (i :: es).count .tick = [i].count .tick + es.count .tick := List.count_append (l₁ := [i])
      obtain ⟨n, v, z, hn, hv, hz, hzb⟩ := ih u y hy hty hby (by omega) hrest
      exact ⟨n + 1, v, z, by simpa using hn, (after_cons_next s u i (es.take n) hi).trans hv, hz, hzb⟩

/-- The invariant's part about one BUSY session (R35, R188). -/
theorem State.Inv.transacting {s : State} (hs : s.Inv) (k : Nat) (x : Session) (hk : s.sessions[k]? = some x)
    (hb : x.busy = true) : x.Transacting ∧ x.BeforeTimeout := by
  have hok := hs.session_ok k x hk
  have hset := hs.settled_ok k x hk
  refine ⟨⟨hb, hok.busy_open hb, hok.busy_iff.mp hb⟩, fun hp => ?_, fun hp => ?_⟩
  · obtain ⟨-, hcnt⟩ := hset.tx_bounds hp
    exact hcnt
  · obtain ⟨-, hcnt, -⟩ := hset.rx_bounds hp
    exact hcnt

/-- Settles O58: the ticks a transaction has left, at most WR_T + RD_T, go down with every tick. -/
theorem everyTransactionEndsInTime : Obligations.EveryTransactionEndsInTime := by
  intro s t k x es hs hk hb hticks hrun
  obtain ⟨hx, ht⟩ := hs.transacting k x hk hb
  exact transaction_ends k t es s x hk hx ht ((ticksLeft_le x).trans hticks) hrun

end Sys2Proof.Machine

/-! PROOFS. Every step keeps the invariant (R35). An event's effect and `Settle` are both work of one session's engine, or
touch no more than an input of the block, so the argument is made once for an engine and what it may write of the ports,
and then carried to the state. -/

namespace Sys2Proof.Machine

/-! ### Between an event's effect and its `Settle` -/

/-- What an event leaves of a transaction before the `Settle` that ends its step. Beside the two states of the transmitter
that `SettledOk` knows there is a third: the octet loaded last has been sent and the next is not loaded yet (R182, R183). -/
structure PendingOk (ports : List Port) (x : Session) : Prop where
  tx_octet : x.phase = .tx → ∃ q, ports[x.portSel.toNat]? = some q ∧
    ((x.txLoaded.toNat = 0 ∧ x.txSent.toNat = 0) ∨
      (q.txBusy = true ∧ x.txLoaded.toNat = x.txSent.toNat + 1 ∧ q.txByte = x.txf.get x.txSent.toNat) ∨
      (q.txBusy = false ∧ x.txLoaded.toNat = x.txSent.toNat))
  rx_sent : x.phase = .rx → x.txLoaded.toNat = 5 ∧ x.txSent.toNat = 5

/-- What `Settle` leaves is left until the next event. -/
theorem SettledOk.pendingOk {ports : List Port} {x : Session} (h : SettledOk ports x) : PendingOk ports x where
  tx_octet hp := by
    obtain ⟨q, hq, hb, h0 | ⟨hl, hbyte⟩⟩ := h.tx_busy hp
    · exact ⟨q, hq, .inl h0⟩
    · exact ⟨q, hq, .inr (.inl ⟨hb, hl, hbyte⟩)⟩
  rx_sent hp := by
    obtain ⟨-, -, hl, hs⟩ := h.rx_bounds hp
    exact ⟨hl, hs⟩

/-- An IDLE session is settled (R188). -/
theorem settledOk_idle (ports : List Port) (x : Session) (h : x.phase = .idle) : SettledOk ports x :=
  ⟨fun hp => absurd (h.symm.trans hp) nofun, fun hp => absurd (h.symm.trans hp) nofun,
    fun hp => absurd (h.symm.trans hp) nofun⟩

/-- An IDLE session has nothing pending. -/
theorem pendingOk_idle (ports : List Port) (x : Session) (h : x.phase = .idle) : PendingOk ports x :=
  (settledOk_idle ports x h).pendingOk

/-- A transmitting session is Open (R35 a, b). -/
theorem SessionOk.open_of_tx {ports : List Port} {k : Nat} {x : Session} (h : SessionOk ports k x)
    (hp : x.phase = .tx) : x.isOpen = true :=
  h.busy_open (h.busy_iff.mpr (hp ▸ nofun))

/-- R35 (a): a session that is not BUSY is IDLE. -/
theorem SessionOk.idle {ports : List Port} {k : Nat} {x : Session} (h : SessionOk ports k x) (hb : x.busy = false) :
    x.phase = .idle :=
  by_contra fun hp => absurd (hb.symm.trans (h.busy_iff.mpr hp)) nofun

/-- A Closed session is IDLE (R35 a, b). -/
theorem SessionOk.idle_of_closed {ports : List Port} {k : Nat} {x : Session} (h : SessionOk ports k x)
    (ho : x.isOpen = false) : x.phase = .idle :=
  h.idle (Bool.eq_false_iff.mpr fun hb => absurd (ho.symm.trans (h.busy_open hb)) nofun)

/-! Of the ports, a session's part of the invariant sees only the one it holds. -/

theorem SessionOk.of_port_eq {ports ports' : List Port} {k : Nat} {x : Session} (h : SessionOk ports k x)
    (hport : x.isOpen = true → ports'[x.portSel.toNat]? = ports[x.portSel.toNat]?) : SessionOk ports' k x :=
  { h with holds_port := fun ho => hport ho ▸ h.holds_port ho }

theorem PendingOk.of_port_eq {ports ports' : List Port} {x : Session} (h : PendingOk ports x)
    (hport : x.phase = .tx → ports'[x.portSel.toNat]? = ports[x.portSel.toNat]?) : PendingOk ports' x :=
  { h with tx_octet := fun hp => hport hp ▸ h.tx_octet hp }

theorem SettledOk.of_port_eq {ports ports' : List Port} {x : Session} (h : SettledOk ports x)
    (hport : x.phase = .tx → ports'[x.portSel.toNat]? = ports[x.portSel.toNat]?) : SettledOk ports' x :=
  { h with tx_busy := fun hp => hport hp ▸ h.tx_busy hp }

/-! ### One engine's part of the invariant -/

/-- The invariant as the engine of one session sees it, before `Settle`: its own record is as R35 says, and of the ports
it holds no other than the one it has open. -/
structure Engine.Sound (e : Engine) : Prop where
  idx_lt : e.idx < 8
  session : SessionOk e.ports e.idx e.ses
  pending : PendingOk e.ports e.ses
  held : ∀ (p : Nat) (q : Port), e.ports[p]? = some q → q.owned = true → q.owner.toNat = e.idx →
    e.ses.isOpen = true ∧ e.ses.portSel.toNat = p
  free : ∀ (p : Nat) (q : Port), e.ports[p]? = some q → q.owned = false → q.owner = 0#3

/-- The frame of an engine's work: a port is held by another session exactly as it was (R105, R170). -/
structure Engine.Frame (e e' : Engine) : Prop where
  idx : e'.idx = e.idx
  others : ∀ (p : Nat) (q : Port), q.owned = true → q.owner.toNat ≠ e.idx →
    (e'.ports[p]? = some q ↔ e.ports[p]? = some q)

/-- Work of one engine that ends sound and stays within its frame. -/
structure Engine.GoesTo (e e' : Engine) : Prop where
  sound : e'.Sound
  frame : e.Frame e'

theorem Engine.Sound.goesTo_self {e : Engine} (h : e.Sound) : e.GoesTo e := ⟨h, rfl, fun _ _ _ _ => .rfl⟩

theorem Engine.GoesTo.trans {e e' e'' : Engine} (h : e.GoesTo e') (h' : e'.GoesTo e'') : e.GoesTo e'' where
  sound := h'.sound
  frame :=
    { idx := h'.frame.idx.trans h.frame.idx
      others := fun p q ho hne =>
        (h'.frame.others p q ho (h.frame.idx.symm ▸ hne)).trans (h.frame.others p q ho hne) }

/-- Writing the record alone, OPEN as it was and an Open session's PORT_SEL too (R42). -/
theorem Engine.Sound.writeSes {e : Engine} (h : e.Sound) {y : Session} (hs : SessionOk e.ports e.idx y)
    (hp : PendingOk e.ports y) (hopen : y.isOpen = e.ses.isOpen)
    (hsel : e.ses.isOpen = true → y.portSel = e.ses.portSel) : e.GoesTo { e with ses := y } where
  sound :=
    { h with
      session := hs
      pending := hp
      held := fun p q hq ho hidx => by
        obtain ⟨hop, hport⟩ := h.held p q hq ho hidx
        exact ⟨hopen.trans hop, hsel hop ▸ hport⟩ }
  frame := ⟨rfl, fun _ _ _ _ => .rfl⟩

/-- Writing the record and the port it selects, where no other session holds that port before or after. -/
theorem Engine.Sound.writePort {e e' : Engine} (h : e.Sound) {q q' : Port}
    (hq : e.ports[e.ses.portSel.toNat]? = some q) (hidx : e'.idx = e.idx)
    (hports : e'.ports = e.ports.set e.ses.portSel.toNat q') (hsel : e'.ses.portSel = e.ses.portSel)
    (hmine : q.owned = true → q.owner.toNat = e.idx)
    (hmine' : q'.owned = true → e'.ses.isOpen = true ∧ q'.owner.toNat = e.idx)
    (hfree : q'.owned = false → q'.owner = 0#3)
    (hs : SessionOk e'.ports e'.idx e'.ses) (hp : PendingOk e'.ports e'.ses) : e.GoesTo e' := by
  have hlt : e.ses.portSel.toNat < e.ports.length := (List.getElem?_eq_some_iff.mp hq).1
  have hself : e'.ports[e.ses.portSel.toNat]? = some q' := by rw [hports, List.getElem?_set_self hlt]
  have hother (p : Nat) (hne : e.ses.portSel.toNat ≠ p) : e'.ports[p]? = e.ports[p]? := by
    rw [hports, List.getElem?_set_ne hne]
  refine ⟨⟨hidx ▸ h.idx_lt, hs, hp, ?held, ?free⟩, hidx, ?others⟩
  case held =>
    intro p r hr ho hi
    rcases eq_or_ne e.ses.portSel.toNat p with rfl | hne
    · obtain rfl := Option.some.inj (hself.symm.trans hr)
      exact ⟨(hmine' ho).1, congrArg BitVec.toNat hsel⟩
    · exact absurd (h.held p r ((hother p hne).symm.trans hr) ho (hi.trans hidx)).2 hne
  case free =>
    intro p r hr ho
    rcases eq_or_ne e.ses.portSel.toNat p with rfl | hne
    · obtain rfl := Option.some.inj (hself.symm.trans hr)
      exact hfree ho
    · exact h.free p r ((hother p hne).symm.trans hr) ho
  case others =>
    intro p r ho hi
    rcases eq_or_ne e.ses.portSel.toNat p with rfl | hne
    · rw [hself, hq]
      constructor
      · rintro ⟨⟩
        exact absurd (hmine' ho).2 hi
      · rintro ⟨⟩
        exact absurd (hmine ho) hi
    · rw [hother p hne]

/-! ### Completion -/

/-- The plain `End` (R306). -/
theorem finish_goesTo (c : ErrCode) {e : Engine} (h : e.Sound) : e.GoesTo (finish c e) :=
  h.writeSes { h.session with busy_iff := by simp, busy_open := nofun, done_idle := fun _ => rfl }
    (pendingOk_idle _ _ rfl) rfl fun _ => rfl

/-- `CloseAction` of a session that is not BUSY (R174): the port it held becomes free. -/
theorem closeAction_goesTo {e : Engine} (h : e.Sound) (hb : e.ses.busy = false) : e.GoesTo (closeAction e) := by
  rcases closeAction_cases e with ⟨-, hc⟩ | ⟨ho, hc⟩
  · exact hc.symm ▸ h.goesTo_self
  · obtain ⟨q, hq, -, howner⟩ := h.session.holds_port ho
    rw [modify_eq_set _ _ _ _ hq] at hc
    rw [hc]
    exact h.writePort hq rfl rfl rfl (fun _ => howner) nofun (fun _ => rfl)
      { h.session with busy_open := fun hb' => absurd (hb.symm.trans hb') nofun, holds_port := nofun }
      (pendingOk_idle _ _ (h.session.idle hb))

/-- `GuardFinish` of a session that is not BUSY (R285). -/
theorem guardFinish_goesTo {e : Engine} (h : e.Sound) (hb : e.ses.busy = false) : e.GoesTo (guardFinish e) := by
  have hclose := closeAction_goesTo h hb
  have hscope : (closeAction e).GoesTo
      { closeAction e with ses := { (closeAction e).ses with guardActive := false } } :=
    hclose.sound.writeSes { hclose.sound.session with } { hclose.sound.pending with } rfl fun _ => rfl
  exact (hclose.trans hscope).trans (finish_goesTo .noError hscope.sound)

/-- `End` in any phase (R306). -/
theorem endOp_goesTo (c : ErrCode) {e : Engine} (h : e.Sound) : e.GoesTo (endOp c e) := by
  rcases endOp_cases c e with ⟨-, he⟩ | ⟨-, -, he⟩
  · exact he ▸ finish_goesTo c h
  · rw [he]
    have hidle : e.GoesTo { e with ses := { e.ses with phase := .idle, busy := false, gdis := some c } } :=
      h.writeSes { h.session with busy_iff := by simp, busy_open := nofun, done_idle := fun _ => rfl }
        (pendingOk_idle _ _ rfl) rfl fun _ => rfl
    exact hidle.trans (guardFinish_goesTo hidle.sound rfl)

/-- `End` leaves the session IDLE (R306). -/
theorem endOp_phase (c : ErrCode) (e : Engine) : (endOp c e).ses.phase = .idle := by
  rcases endOp_cases c e with ⟨-, h⟩ | ⟨-, -, h⟩ <;> rw [h] <;> rfl

/-- Work that `End` completes. -/
theorem Engine.GoesTo.endOp {e e' : Engine} (h : e.GoesTo e') (c : ErrCode) : e.GoesTo (endOp c e') :=
  h.trans (endOp_goesTo c h.sound)

/-- The comparison that ends a transaction (R223). -/
theorem complete_goesTo {e : Engine} (h : e.Sound) : e.GoesTo (complete e) := by
  rcases complete_cases e with ⟨-, hc⟩ | ⟨-, hc⟩ <;> rw [hc] <;> apply Engine.GoesTo.endOp
  · exact h.writeSes { h.session with } { h.pending with } rfl fun _ => rfl
  · exact h.writeSes { h.session with } { h.pending with } rfl fun _ => rfl

theorem complete_phase (e : Engine) : (complete e).ses.phase = .idle := by
  rcases complete_cases e with ⟨-, h⟩ | ⟨-, h⟩ <;> rw [h, endOp_phase]

/-! ### Settle -/

/-- In phase TX the port is transmitting, as `SettledOk` says, or the last octet has been sent: what the hand-off leaves
(R183). -/
def HandedOk (ports : List Port) (x : Session) : Prop :=
  x.phase = .tx → ∃ q, ports[x.portSel.toNat]? = some q ∧
    (x.txSent.toNat = 5 ∨ (q.txBusy = true ∧
      ((x.txLoaded.toNat = 0 ∧ x.txSent.toNat = 0) ∨
        (x.txLoaded.toNat = x.txSent.toNat + 1 ∧ q.txByte = x.txf.get x.txSent.toNat))))

/-- The hand-off loads an octet into an idle transmitter (R183). -/
theorem handOff_loads (e : Engine) (q : Port) (hq : e.ports[e.ses.portSel.toNat]? = some q) (hp : e.ses.phase = .tx)
    (hl : e.ses.txLoaded.toNat < 5) (hb : q.txBusy = false) :
    handOff e =
      { e with
        ports := e.ports.set e.ses.portSel.toNat { q with txBusy := true, txByte := e.ses.txf.get e.ses.txLoaded.toNat }
        trace := e.trace ++ [.txChar e.ses.portSel.toNat (e.ses.txf.get e.ses.txLoaded.toNat)]
        ses := { e.ses with txLoaded := e.ses.txLoaded + 1#3 } } := by
  simp [handOff, hq, hp, hl, hb, Engine.modPort, modify_eq_set _ _ _ _ hq]

/-- The hand-off waits for the transmitter, and has nothing to do when all octets are loaded (R183). -/
theorem handOff_waits (e : Engine) (q : Port) (hq : e.ports[e.ses.portSel.toNat]? = some q)
    (h : ¬(e.ses.txLoaded.toNat < 5 ∧ q.txBusy = false)) : handOff e = e := by
  simp only [handOff, hq]
  exact if_neg fun hc => h hc.2

theorem handOff_not_tx (e : Engine) (hp : e.ses.phase ≠ .tx) : handOff e = e := by
  rcases handOff_cases e with h | ⟨-, -, htx, -⟩
  · exact h
  · exact absurd htx hp

/-- Loading an octet (R183): it is the one that TX_SENT counts next. -/
theorem handOff_loads_goesTo {e : Engine} (h : e.Sound) (q : Port) (hq : e.ports[e.ses.portSel.toNat]? = some q)
    (hp : e.ses.phase = .tx) (hl : e.ses.txLoaded.toNat < 5) (hb : q.txBusy = false) :
    e.GoesTo (handOff e) ∧ HandedOk (handOff e).ports (handOff e).ses := by
  have hopen := h.session.open_of_tx hp
  obtain ⟨q', hq', hown, howner⟩ := h.session.holds_port hopen
  obtain rfl := Option.some.inj (hq.symm.trans hq')
  have hlt : e.ses.portSel.toNat < e.ports.length := (List.getElem?_eq_some_iff.mp hq).1
  have hsent : e.ses.txLoaded.toNat = e.ses.txSent.toNat := by
    obtain ⟨q', hq', ⟨h0, h1⟩ | ⟨hb', -⟩ | ⟨-, heq⟩⟩ := h.pending.tx_octet hp
    · exact h0.trans h1.symm
    · obtain rfl := Option.some.inj (hq.symm.trans hq')
      exact absurd (hb.symm.trans hb') nofun
    · exact heq
  have hnext : (e.ses.txLoaded + 1#3).toNat = e.ses.txSent.toNat + 1 := by bv_omega
  rw [handOff_loads e q hq hp hl hb]
  have hself := List.getElem?_set_self (a := { q with txBusy := true, txByte := e.ses.txf.get e.ses.txLoaded.toNat }) hlt
  refine ⟨h.writePort hq rfl rfl rfl (fun _ => howner) (fun _ => ⟨hopen, howner⟩)
    (fun hf => absurd (hown.symm.trans hf) nofun) ?session ?pending, fun _ => ?handed⟩
  case session =>
    exact { h.session with
      sent_le := (Nat.le_succ _).trans hnext.ge
      loaded_le := by dsimp only; omega
      holds_port := fun _ => ⟨_, hself, hown, howner⟩ }
  case pending =>
    exact ⟨fun _ => ⟨_, hself, .inr (.inl ⟨rfl, hnext, by rw [hsent]⟩)⟩, fun hp' => absurd (hp.symm.trans hp') nofun⟩
  case handed => exact ⟨_, hself, .inr ⟨rfl, .inr ⟨hnext, by rw [hsent]⟩⟩⟩

/-- The transmit hand-off (R183) on a sound engine. -/
theorem handOff_goesTo {e : Engine} (h : e.Sound) :
    e.GoesTo (handOff e) ∧ HandedOk (handOff e).ports (handOff e).ses := by
  by_cases hp : e.ses.phase = .tx
  · obtain ⟨q, hq, hcases⟩ := h.pending.tx_octet hp
    by_cases hload : e.ses.txLoaded.toNat < 5 ∧ q.txBusy = false
    · exact handOff_loads_goesTo h q hq hp hload.1 hload.2
    · rw [handOff_waits e q hq hload]
      refine ⟨h.goesTo_self, fun _ => ⟨q, hq, ?_⟩⟩
      rcases hcases with ⟨h0, h1⟩ | ⟨hb, hl⟩ | ⟨hb, heq⟩
      · exact .inr ⟨by simpa [h0] using hload, .inl ⟨h0, h1⟩⟩
      · exact .inr ⟨hb, .inr hl⟩
      · have hall : ¬e.ses.txLoaded.toNat < 5 := fun hlt => hload ⟨hlt, hb⟩
        have hle := h.session.loaded_le
        exact .inl (by omega)
  · rw [handOff_not_tx e hp]
    exact ⟨h.goesTo_self, fun hp' => absurd hp' hp⟩

/-- What the write phase's end leaves of phase TX: an octet in the transmitter (R186). -/
structure SendingOk (ports : List Port) (x : Session) : Prop where
  sent_lt : x.phase = .tx → x.txSent.toNat < 5
  tx_busy : x.phase = .tx → ∃ q, ports[x.portSel.toNat]? = some q ∧ q.txBusy = true ∧
    ((x.txLoaded.toNat = 0 ∧ x.txSent.toNat = 0) ∨
      (x.txLoaded.toNat = x.txSent.toNat + 1 ∧ q.txByte = x.txf.get x.txSent.toNat))

/-- The end of the write phase (R186) on a sound engine, after the hand-off. -/
theorem writePhaseEnd_goesTo {e : Engine} (h : e.Sound) (hh : HandedOk e.ports e.ses) :
    e.GoesTo (writePhaseEnd e) ∧ SendingOk (writePhaseEnd e).ports (writePhaseEnd e).ses := by
  have hle := h.session.sent_le
  have hle5 := h.session.loaded_le
  rcases writePhaseEnd_cases e with ⟨hnot, hw⟩ | ⟨hp, hsent, hw⟩
  · have hlt (hp : e.ses.phase = .tx) : e.ses.txSent.toNat ≠ 5 := fun h5 => hnot ⟨hp, BitVec.eq_of_toNat_eq h5⟩
    rw [hw]
    refine ⟨h.goesTo_self, fun hp => ?_, fun hp => ?_⟩
    · have := hlt hp
      omega
    · obtain ⟨q, hq, h5 | hbusy⟩ := hh hp
      · exact absurd h5 (hlt hp)
      · exact ⟨q, hq, hbusy⟩
  · have hsent5 : e.ses.txSent.toNat = 5 := congrArg BitVec.toNat hsent
    have hbusy : e.ses.busy = true := h.session.busy_iff.mpr (hp ▸ nofun)
    rw [hw]
    exact ⟨h.writeSes { h.session with busy_iff := ⟨fun _ => nofun, fun _ => hbusy⟩ }
      ⟨nofun, fun _ => ⟨by dsimp only; omega, hsent5⟩⟩ rfl fun _ => rfl, nofun, nofun⟩

/-- A phase ends, or leaves a settled session (R185, R187 to R189). -/
theorem phaseOutcome_goesTo {e : Engine} (h : e.Sound) (hs : SendingOk e.ports e.ses) :
    e.GoesTo (phaseOutcome e) ∧ SettledOk (phaseOutcome e).ports (phaseOutcome e).ses := by
  rcases phaseOutcome_cases e with ⟨-, -, ho⟩ | ⟨-, -, ho⟩ | ⟨-, -, -, ho⟩ | ⟨hrx, htx, ho⟩
  · exact ho ▸ ⟨complete_goesTo h, settledOk_idle _ _ (complete_phase e)⟩
  · exact ho ▸ ⟨endOp_goesTo _ h, settledOk_idle _ _ (endOp_phase _ e)⟩
  · exact ho ▸ ⟨endOp_goesTo _ h, settledOk_idle _ _ (endOp_phase _ e)⟩
  · rw [ho]
    refine ⟨h.goesTo_self, fun hp => ⟨hs.sent_lt hp, ?_⟩, hs.tx_busy, fun hp => ?_⟩
    · simpa [BitVec.le_def] using htx hp
    · obtain ⟨hcnt, hto⟩ := hrx hp
      have hle := h.session.rxcnt_le
      have hne : e.ses.rxcnt.toNat ≠ 5 := fun h5 => hcnt (BitVec.eq_of_toNat_eq h5)
      exact ⟨by omega, by simpa [BitVec.le_def] using hto, h.pending.rx_sent hp⟩

/-- `Settle` (R188) on a sound engine: it settles the session. -/
theorem settle_goesTo {e : Engine} (h : e.Sound) : e.GoesTo (settle e) ∧ SettledOk (settle e).ports (settle e).ses := by
  by_cases hp : e.ses.phase = .idle
  · rw [settle_idle e hp]
    exact ⟨h.goesTo_self, settledOk_idle _ _ hp⟩
  · obtain ⟨hload, hhanded⟩ := handOff_goesTo h
    obtain ⟨hwrite, hsending⟩ := writePhaseEnd_goesTo hload.sound hhanded
    obtain ⟨hend, hsettled⟩ := phaseOutcome_goesTo hwrite.sound hsending
    rw [settle_busy e hp]
    exact ⟨(hload.trans hwrite).trans hend, hsettled⟩

/-! ### Commands -/

/-- A transaction starts on an Open session that has DONE cleared (R221, R222). -/
theorem startTxn_goesTo (c : Byte) (d : Data) {e : Engine} (h : e.Sound) (ho : e.ses.isOpen = true)
    (hd : e.ses.done = false) : e.GoesTo (startTxn c d e) := by
  obtain ⟨q, hq, -⟩ := h.session.holds_port ho
  exact h.writeSes
    { h.session with
      busy_iff := ⟨fun _ => nofun, fun _ => rfl⟩
      busy_open := fun _ => ho
      done_idle := fun hd' => absurd (hd.symm.trans hd') nofun
      sent_le := le_rfl
      loaded_le := Nat.zero_le 5
      rxcnt_le := Nat.zero_le 5 }
    ⟨fun _ => ⟨q, hq, .inl ⟨rfl, rfl⟩⟩, nofun⟩ rfl fun _ => rfl

/-- `OpenAction` (R172): the free port it acquires is then held by this session alone. -/
theorem openAction_goesTo {e : Engine} (h : e.Sound) : e.GoesTo (openAction e).1 := by
  have hcause (c : ConnCause) : e.GoesTo { e with ses := { e.ses with connCause := c } } :=
    h.writeSes { h.session with } { h.pending with } rfl fun _ => rfl
  rcases openAction_cases e with
    ⟨-, ha⟩ | ⟨hclosed, ⟨-, ha⟩ | ⟨q, hq, ⟨-, ha⟩ | ⟨-, -, ha⟩ | ⟨-, -, -, ha⟩ | ⟨-, hfree, -, ha⟩⟩⟩
  · exact ha ▸ hcause .noCause
  · exact ha ▸ hcause .absent
  · exact ha ▸ hcause .absent
  · exact ha ▸ hcause .busy
  · exact ha ▸ hcause .permission
  · have hlt : e.ses.portSel.toNat < e.ports.length := (List.getElem?_eq_some_iff.mp hq).1
    have howner : (BitVec.ofNat 3 e.idx).toNat = e.idx := by
      rw [BitVec.toNat_ofNat, Nat.mod_eq_of_lt h.idx_lt]
    have hnotTx (hp : e.ses.phase = .tx) : False := absurd (hclosed.symm.trans (h.session.open_of_tx hp)) nofun
    rw [ha]
    exact h.writePort hq rfl rfl rfl (fun ho => absurd (hfree.symm.trans ho) nofun) (fun _ => ⟨rfl, howner⟩) nofun
      { h.session with
        busy_open := fun _ => rfl
        holds_port := fun _ => ⟨_, List.getElem?_set_self hlt, rfl, howner⟩ }
      { h.pending with tx_octet := fun hp => (hnotTx hp).elim }

/-- A command's body, run as `Launch` runs it: on a session that is not BUSY and has DONE cleared (R221). -/
def SoundBody (body : Engine → Engine) : Prop :=
  ∀ e : Engine, e.Sound → e.ses.busy = false → e.ses.done = false → e.GoesTo (body e)

theorem soundBody_wireOp (n : WireName) (d : Data) (v : Bool) : SoundBody (wireOp n d v) := by
  intro e h _ hd
  rcases wireOp_cases n d v e with ⟨-, hw⟩ | ⟨-, -, hw⟩ | ⟨c, -, -, ⟨-, hw⟩ | ⟨ho, hw⟩⟩
  · exact hw ▸ endOp_goesTo _ h
  · exact hw ▸ endOp_goesTo _ h
  · exact hw ▸ endOp_goesTo _ h
  · exact hw ▸ startTxn_goesTo c d h ho hd

theorem soundBody_rsterrBody : SoundBody rsterrBody := fun e => soundBody_wireOp _ e.params.resetErrorData _ e

theorem soundBody_sendBody (cmd : Byte) (data : Data) : SoundBody (sendBody cmd data) := by
  intro e h _ hd
  cases ho : e.ses.isOpen with
  | false => simpa [sendBody, ho] using endOp_goesTo .notOpen h
  | true => simpa [sendBody, ho] using startTxn_goesTo cmd data h ho hd

theorem soundBody_encodeBody (cmd : Byte) (data : Data) : SoundBody (encodeBody cmd data) := by
  intro e h hb _
  apply Engine.GoesTo.endOp
  exact h.writeSes { h.session with } (pendingOk_idle _ _ (h.session.idle hb)) rfl fun _ => rfl

theorem soundBody_decodeBody : SoundBody decodeBody := by
  intro e h _ _
  apply Engine.GoesTo.endOp
  exact h.writeSes { h.session with } { h.pending with } rfl fun _ => rfl

theorem soundBody_openBody : SoundBody openBody := fun _ h _ _ => (openAction_goesTo h).endOp _

theorem soundBody_closeBody : SoundBody closeBody := fun _ h hb _ => (closeAction_goesTo h hb).endOp _

theorem soundBody_endOp (c : ErrCode) : SoundBody (endOp c) := fun _ h _ _ => endOp_goesTo c h

theorem soundBody_genterBody : SoundBody genterBody := by
  intro e h _ _
  have hopen := openAction_goesTo h
  have hscope : (openAction e).1.GoesTo
      { (openAction e).1 with ses := { (openAction e).1.ses with guardActive := true } } :=
    hopen.sound.writeSes { hopen.sound.session with } { hopen.sound.pending with } rfl fun _ => rfl
  unfold genterBody
  dsimp only
  split_ifs
  · exact endOp_goesTo _ h
  · exact (hopen.trans hscope).endOp _
  · exact hopen.endOp _

/-- `GuardFinish` after the outcome of the RF-disable attempt is written to GDIS (R282, R284). -/
theorem guardFinish_gdis_goesTo (g : Option ErrCode) {e : Engine} (h : e.Sound) (hb : e.ses.busy = false) :
    e.GoesTo (guardFinish { e with ses := { e.ses with gdis := g } }) := by
  have hgdis : e.GoesTo { e with ses := { e.ses with gdis := g } } :=
    h.writeSes { h.session with } { h.pending with } rfl fun _ => rfl
  exact hgdis.trans (guardFinish_goesTo hgdis.sound hb)

theorem soundBody_guardDisable : SoundBody guardDisable := by
  intro e h hb hd
  rcases guardDisable_cases e with ⟨-, hg⟩ | ⟨c, -, ⟨-, hg⟩ | ⟨ho, hg⟩⟩
  · exact hg ▸ guardFinish_gdis_goesTo _ h hb
  · exact hg ▸ guardFinish_gdis_goesTo _ h hb
  · exact hg ▸ startTxn_goesTo c _ h ho hd

theorem soundBody_guardExitBody : SoundBody guardExitBody := by
  intro e h hb hd
  unfold guardExitBody
  split_ifs
  · exact endOp_goesTo _ h
  · exact soundBody_guardDisable e h hb hd

theorem soundBody_gexitfBody : SoundBody gexitfBody := by
  intro e h hb _
  unfold gexitfBody
  split_ifs
  · exact endOp_goesTo _ h
  · exact guardFinish_gdis_goesTo none h hb

/-- Every operation is the launch of a sound body (R221). -/
theorem exec_soundBody (i : Instr) : ∃ body, SoundBody body ∧ ∀ s, exec i s = .next (s.launch (opOf i) body) := by
  cases i with
  | openSession => exact ⟨_, soundBody_openBody, fun _ => rfl⟩
  | closeSession => exact ⟨_, soundBody_closeBody, fun _ => rfl⟩
  | send cmd data => exact ⟨_, soundBody_sendBody cmd data, fun _ => rfl⟩
  | encode cmd data => exact ⟨_, soundBody_encodeBody cmd data, fun _ => rfl⟩
  | decode => exact ⟨_, soundBody_decodeBody, fun _ => rfl⟩
  | genter => exact ⟨_, soundBody_genterBody, fun _ => rfl⟩
  | gexitn | gexite => exact ⟨_, soundBody_guardExitBody, fun _ => rfl⟩
  | gexitf => exact ⟨_, soundBody_gexitfBody, fun _ => rfl⟩
  | rsterr => exact ⟨_, soundBody_rsterrBody, fun _ => rfl⟩
  | wrsp | rdsp | wrlu | rdlu | wrli | rdli | wrlp | rdlp | wrmode | rdmode | rfon | rfoff | rdoper | rdstat | rdapwr
  | rdavol | rdacur | rdafrq => exact ⟨_, soundBody_wireOp _ _ _, fun _ => rfl⟩

/-- `Launch` (R221), accepted or refused. -/
theorem launchOn_goesTo (op : Byte) {body : Engine → Engine} (hbody : SoundBody body) {e : Engine} (h : e.Sound) :
    e.GoesTo (launchOn op body e) := by
  cases hb : e.ses.busy with
  | true =>
    rw [launchOn, if_pos hb]
    exact h.writeSes { h.session with } { h.pending with } rfl fun _ => rfl
  | false =>
    rw [launchOn, if_neg (by simp [hb])]
    have haccept : e.GoesTo { e with ses := { e.ses with done := false, err := .noError, lastOp := op } } :=
      h.writeSes { h.session with done_idle := nofun } { h.pending with } rfl fun _ => rfl
    exact haccept.trans (hbody _ haccept.sound hb rfl)

/-! ### The other events -/

/-- A character at the owner of its port (R180): RXCNT stays within the frame. -/
theorem receiveOctet_goesTo (b : Byte) (ferr : Bool) {e : Engine} (h : e.Sound) : e.GoesTo (receiveOctet b ferr e) := by
  unfold receiveOctet
  split_ifs with hf hc
  · exact h.writeSes { h.session with } { h.pending with } rfl fun _ => rfl
  · have hnext : (e.ses.rxcnt + 1#3).toNat ≤ 5 := by bv_omega
    exact h.writeSes { h.session with rxcnt_le := hnext } { h.pending with } rfl fun _ => rfl
  · exact h.writeSes { h.session with } { h.pending with } rfl fun _ => rfl

/-- The two cases of an octet's count at the owner of its port (R182). -/
theorem countSent_cases (e : Engine) :
    (e.ses.phase = .tx ∧ e.ses.txSent.toNat < e.ses.txLoaded.toNat ∧
        countSent e = { e with ses := { e.ses with txSent := e.ses.txSent + 1#3 } }) ∨
      ((e.ses.phase = .tx → ¬e.ses.txSent.toNat < e.ses.txLoaded.toNat) ∧ countSent e = e) := by
  by_cases hc : e.ses.phase = .tx ∧ e.ses.txSent < e.ses.txLoaded
  · exact .inl ⟨hc.1, hc.2, if_pos hc⟩
  · exact .inr ⟨fun hp hlt => hc ⟨hp, hlt⟩, if_neg hc⟩

/-- `TxDone` as work of the owner's engine (R182): its port's transmitter becomes idle, and the octet is counted. -/
def Engine.txDone (p : Nat) (e : Engine) : Engine := countSent (e.modPort p fun q => { q with txBusy := false })

/-- Before a transmit completion, phase TX has an octet in the transmitter or none loaded yet (R182). -/
theorem Engine.Sound.tx_cases {e : Engine} (h : e.Sound) {q : Port} (hq : e.ports[e.ses.portSel.toNat]? = some q)
    (hb : q.txBusy = true) (hp : e.ses.phase = .tx) :
    (e.ses.txLoaded.toNat = 0 ∧ e.ses.txSent.toNat = 0) ∨ e.ses.txLoaded.toNat = e.ses.txSent.toNat + 1 := by
  obtain ⟨q', hq', h0 | ⟨-, hl, -⟩ | ⟨hb', -⟩⟩ := h.pending.tx_octet hp
  · exact .inl h0
  · exact .inr hl
  · obtain rfl := Option.some.inj (hq.symm.trans hq')
    exact absurd (hb.symm.trans hb') nofun

/-- A transmit completion at the owner of its port (R182). -/
theorem txDone_goesTo {p : Nat} {q : Port} {e : Engine} (h : e.Sound) (hq : e.ports[p]? = some q)
    (hb : q.txBusy = true) (hown : q.owned = true) (howner : q.owner.toNat = e.idx) : e.GoesTo (e.txDone p) := by
  obtain ⟨hopen, rfl⟩ := h.held p q hq hown howner
  have hlt : e.ses.portSel.toNat < e.ports.length := (List.getElem?_eq_some_iff.mp hq).1
  obtain ⟨ports', hset, hself⟩ : ∃ ports', ports' = e.ports.set e.ses.portSel.toNat { q with txBusy := false } ∧
      ports'[e.ses.portSel.toNat]? = some { q with txBusy := false } := ⟨_, rfl, List.getElem?_set_self hlt⟩
  have hok : SessionOk ports' e.idx e.ses :=
    { h.session with holds_port := fun _ => ⟨_, hself, hown, howner⟩ }
  have hwrite (y : Session) (hsel : y.portSel = e.ses.portSel) (ho : y.isOpen = e.ses.isOpen)
      (hs : SessionOk ports' e.idx y) (hp : PendingOk ports' y) : e.GoesTo { e with ports := ports', ses := y } :=
    h.writePort hq rfl hset hsel (fun _ => howner) (fun _ => ⟨ho.trans hopen, howner⟩)
      (fun hf => absurd (hown.symm.trans hf) nofun) hs hp
  unfold Engine.txDone Engine.modPort
  rw [modify_eq_set _ _ _ _ hq, ← hset]
  rcases countSent_cases { e with ports := ports' } with ⟨hp, hsl, hc⟩ | ⟨hnot, hc⟩
  · dsimp only at hp hsl
    have hle := h.session.loaded_le
    have hnext : (e.ses.txSent + 1#3).toNat = e.ses.txLoaded.toNat := by
      have := h.tx_cases hq hb hp
      bv_omega
    rw [hc]
    exact hwrite _ rfl rfl { hok with sent_le := hnext.le }
      ⟨fun _ => ⟨_, hself, .inr (.inr ⟨rfl, hnext.symm⟩)⟩, fun hp' => absurd (hp.symm.trans hp') nofun⟩
  · rw [hc]
    refine hwrite e.ses rfl rfl hok { h.pending with tx_octet := fun hp => ⟨_, hself, .inl ?_⟩ }
    have hnot' : ¬e.ses.txSent.toNat < e.ses.txLoaded.toNat := hnot hp
    exact (h.tx_cases hq hb hp).resolve_right (by omega)

/-- A timeout as TMO stores it is at least 1 (R43). -/
theorem warlTimeout_pos (v : Data) : 0 < (warlTimeout v).toNat := by
  unfold warlTimeout
  split_ifs with h
  · exact Nat.one_pos
  · bv_omega

/-- A register write (R39 to R43, R48): what an Open session needs is frozen. -/
theorem writeSessionReg_goesTo (v : Word) (r : SessionReg) {e : Engine} (h : e.Sound) :
    e.GoesTo { e with ses := writeSessionReg v r e.ses } := by
  cases r with
  | stat =>
    exact h.writeSes
      { h.session with done_idle := fun hd => h.session.done_idle (Bool.and_elim_left hd) }
      { h.pending with } rfl fun _ => rfl
  | cfg =>
    cases ho : e.ses.isOpen with
    | true => simpa [writeSessionReg, ho] using h.goesTo_self
    | false =>
      simp only [writeSessionReg, ho, Bool.false_eq_true, if_false]
      exact h.writeSes { h.session with holds_port := fun ho' => absurd (ho.symm.trans ho') nofun }
        (pendingOk_idle _ _ (h.session.idle_of_closed ho)) rfl fun ho' => absurd (ho.symm.trans ho') nofun
  | tmo =>
    cases ho : e.ses.isOpen with
    | true => simpa [writeSessionReg, ho] using h.goesTo_self
    | false =>
      simp only [writeSessionReg, ho, Bool.false_eq_true, if_false]
      exact h.writeSes { h.session with wrT_pos := warlTimeout_pos _, rdT_pos := warlTimeout_pos _ }
        { h.pending with } rfl fun _ => rfl
  | ie | cin0 | cin1 => exact h.writeSes { h.session with } { h.pending with } rfl fun _ => rfl
  | ctrl | resp | cksum | txf0 | txf1 | rxf0 | rxf1 | sdec | diag => exact h.goesTo_self

/-! ### The state -/

/-- The invariant before `Settle`: R35, with what is pending of each transaction. -/
structure State.Coherent (s : State) : Prop where
  count_le : s.sessions.length ≤ 8
  session_ok : ∀ (k : Nat) (x : Session), s.sessions[k]? = some x → SessionOk s.ports k x
  port_ok : ∀ (p : Nat) (q : Port), s.ports[p]? = some q → PortOk s.sessions p q
  pending_ok : ∀ (k : Nat) (x : Session), s.sessions[k]? = some x → PendingOk s.ports x

theorem State.Inv.coherent {s : State} (h : s.Inv) : s.Coherent where
  count_le := h.sessions_count.2
  session_ok := h.session_ok
  port_ok := h.port_ok
  pending_ok k x hk := (h.settled_ok k x hk).pendingOk

/-- Each engine of a coherent state is sound. -/
theorem State.Coherent.engine_sound {s : State} (h : s.Coherent) {k : Nat} {x : Session}
    (hk : s.sessions[k]? = some x) : (s.engine k x).Sound where
  idx_lt := (List.getElem?_eq_some_iff.mp hk).1.trans_le h.count_le
  session := h.session_ok k x hk
  pending := h.pending_ok k x hk
  held p q hq ho howner := by
    obtain ⟨y, hy, hopen, hsel⟩ := (h.port_ok p q hq).held ho
    obtain rfl : x = y := Option.some.inj (hk.symm.trans ((congrArg (s.sessions[·]?) howner).symm.trans hy))
    exact ⟨hopen, hsel⟩
  free p q hq := (h.port_ok p q hq).free

/-- The port another session has open is left alone by an engine within its frame (R105). -/
theorem State.Coherent.port_of_other {s : State} (h : s.Coherent) {k j : Nat} {x y : Session} {e : Engine}
    (hf : (s.engine k x).Frame e) (hj : s.sessions[j]? = some y) (hne : j ≠ k) (ho : y.isOpen = true) :
    e.ports[y.portSel.toNat]? = s.ports[y.portSel.toNat]? := by
  obtain ⟨q, hq, hown, howner⟩ := (h.session_ok j y hj).holds_port ho
  exact ((hf.others _ q hown (howner.trans_ne hne)).mpr hq).trans hq.symm

/-- The session records after an engine's work is put back. -/
theorem State.withEngine_session_cases {s : State} {k : Nat} {e : Engine} {j : Nat} {y : Session}
    (h : (s.withEngine k e).sessions[j]? = some y) : (j = k ∧ y = e.ses) ∨ (j ≠ k ∧ s.sessions[j]? = some y) := by
  rcases eq_or_ne j k with rfl | hne
  · rw [State.withEngine_sessions, List.getElem?_set] at h
    simp only [if_true] at h
    split_ifs at h
    exact .inl ⟨rfl, (Option.some.inj h).symm⟩
  · rw [State.withEngine_sessions, List.getElem?_set_ne hne.symm] at h
    exact .inr ⟨hne, h⟩

/-- An engine's sound work within its frame keeps the state coherent. -/
theorem State.Coherent.withEngine {s : State} (h : s.Coherent) {k : Nat} {x : Session} {e : Engine}
    (hk : s.sessions[k]? = some x) (he : (s.engine k x).GoesTo e) : (s.withEngine k e).Coherent where
  count_le := by simpa using h.count_le
  session_ok j y hj := by
    rcases State.withEngine_session_cases hj with ⟨rfl, rfl⟩ | ⟨hne, hj⟩
    · have hidx : e.idx = j := he.frame.idx
      exact hidx ▸ he.sound.session
    · exact (h.session_ok j y hj).of_port_eq (h.port_of_other he.frame hj hne)
  port_ok p q hq :=
    { held := fun ho => by
        rcases eq_or_ne q.owner.toNat k with hmine | hne
        · obtain ⟨hopen, hsel⟩ := he.sound.held p q hq ho (hmine.trans he.frame.idx.symm)
          have hlt : k < s.sessions.length := (List.getElem?_eq_some_iff.mp hk).1
          exact ⟨e.ses, by rw [hmine, State.withEngine_sessions, List.getElem?_set_self hlt], hopen, hsel⟩
        · obtain ⟨y, hy, hopen, hsel⟩ := (h.port_ok p q ((he.frame.others p q ho hne).mp hq)).held ho
          exact ⟨y, by rw [State.withEngine_sessions, List.getElem?_set_ne hne.symm, hy], hopen, hsel⟩
      free := he.sound.free p q hq }
  pending_ok j y hj := by
    rcases State.withEngine_session_cases hj with ⟨-, rfl⟩ | ⟨hne, hj⟩
    · exact he.sound.pending
    · exact (h.pending_ok j y hj).of_port_eq fun hp =>
        h.port_of_other he.frame hj hne ((h.session_ok j y hj).open_of_tx hp)

/-- Running a procedure of one session, whatever the session. -/
theorem State.Coherent.onSession {s : State} (h : s.Coherent) (k : Nat) {f : Engine → Engine}
    (hf : ∀ e : Engine, e.Sound → e.GoesTo (f e)) : (s.onSession k f).Coherent := by
  rcases s.onSession_cases k f with ⟨-, hs⟩ | ⟨x, hk, hs⟩
  · rw [hs]
    exact h
  · rw [hs]
    exact h.withEngine hk (hf _ (h.engine_sound hk))

/-- The sessions settled so far are settled, and stay so (R11, R188). -/
theorem State.Coherent.settleUpTo_settled {s : State} (h : s.Coherent) (n : Nat) :
    (settleUpTo n s).Coherent ∧ ∀ (k : Nat) (x : Session), k < n → (settleUpTo n s).sessions[k]? = some x →
      SettledOk (settleUpTo n s).ports x := by
  induction n with
  | zero => exact ⟨h, fun k _ hk => absurd hk k.not_lt_zero⟩
  | succ n ih =>
    obtain ⟨hcoh, hset⟩ := ih
    rw [settleUpTo_succ]
    rcases (settleUpTo n s).onSession_cases n settle with ⟨hnone, hs⟩ | ⟨x, hx, hs⟩
    · rw [hs]
      refine ⟨hcoh, fun k y hk hy => hset k y (Nat.lt_of_le_of_ne (Nat.le_of_lt_succ hk) ?_) hy⟩
      rintro rfl
      exact absurd (hnone.symm.trans hy) nofun
    · rw [hs]
      obtain ⟨hgo, hsettled⟩ := settle_goesTo (hcoh.engine_sound hx)
      refine ⟨hcoh.withEngine hx hgo, fun k y hk hy => ?_⟩
      rcases State.withEngine_session_cases hy with ⟨-, rfl⟩ | ⟨hne, hy⟩
      · exact hsettled
      · exact (hset k y (Nat.lt_of_le_of_ne (Nat.le_of_lt_succ hk) hne) hy).of_port_eq fun hp =>
          hcoh.port_of_other hgo.frame hy hne ((hcoh.session_ok k y hy).open_of_tx hp)

/-- A coherent state, settled, meets the invariant (R35, R188). -/
theorem State.Coherent.settleAll_inv {s : State} (h : s.Coherent) (hs : 1 ≤ s.sessions.length)
    (hp : 1 ≤ s.ports.length ∧ s.ports.length ≤ 8) : (settleAll s).Inv := by
  obtain ⟨hcoh, hset⟩ := h.settleUpTo_settled s.sessions.length
  have hblock := settleUpTo_sameBlock s.sessions.length s
  exact
    { sessions_count := hblock.sessions.symm ▸ ⟨hs, h.count_le⟩
      ports_count := hblock.ports.symm ▸ hp
      session_ok := hcoh.session_ok
      port_ok := hcoh.port_ok
      settled_ok := fun k x hk =>
        hset k x (hblock.sessions ▸ (List.getElem?_eq_some_iff.mp hk).1) hk }

/-! ### Events that are no engine's work -/

/-- `q'` is `q` as far as the invariant looks: the fields that a write to PORT_ENABLE, a presence change or a transmit
completion of a free port leaves alone (R72, R178, R182). -/
structure Port.SameHold (q q' : Port) : Prop where
  owned : q'.owned = q.owned
  owner : q'.owner = q.owner
  txBusy : q.owned = true → q'.txBusy = q.txBusy
  txByte : q.owned = true → q'.txByte = q.txByte

/-- Writing the ports alone, each with its owner as it was. -/
theorem State.Coherent.writePorts {s : State} (h : s.Coherent) (ports' : List Port) (g : Nat → Port → Port)
    (hports : ∀ p : Nat, ports'[p]? = s.ports[p]?.map (g p))
    (hg : ∀ (p : Nat) (q : Port), s.ports[p]? = some q → q.SameHold (g p q)) :
    State.Coherent { s with ports := ports' } where
  count_le := h.count_le
  session_ok k x hk :=
    { h.session_ok k x hk with
      holds_port := fun ho => by
        obtain ⟨q, hq, hown, howner⟩ := (h.session_ok k x hk).holds_port ho
        have hsame := hg _ q hq
        exact ⟨g _ q, by simp [hports, hq], hsame.owned.trans hown, hsame.owner ▸ howner⟩ }
  port_ok p q' hq' := by
    obtain ⟨q, hq, rfl⟩ := Option.map_eq_some_iff.mp ((hports p).symm.trans hq')
    have hsame := hg p q hq
    have hok := h.port_ok p q hq
    exact ⟨fun ho => hsame.owner ▸ hok.held (hsame.owned.symm.trans ho),
      fun hf => hsame.owner.trans (hok.free (hsame.owned.symm.trans hf))⟩
  pending_ok k x hk :=
    { h.pending_ok k x hk with
      tx_octet := fun hp => by
        have hok := h.session_ok k x hk
        obtain ⟨q, hq, hcases⟩ := (h.pending_ok k x hk).tx_octet hp
        obtain ⟨q', hq', hown, -⟩ := hok.holds_port (hok.open_of_tx hp)
        obtain rfl := Option.some.inj (hq.symm.trans hq')
        have hsame := hg _ q hq
        rw [← hsame.txBusy hown, ← hsame.txByte hown] at hcases
        exact ⟨g _ q, by simp [hports, hq], hcases⟩ }

/-- Modifying one port, its owner as it was. -/
theorem State.Coherent.modifyPort {s : State} (h : s.Coherent) (p : Nat) (f : Port → Port)
    (hf : ∀ q : Port, s.ports[p]? = some q → q.SameHold (f q)) :
    State.Coherent { s with ports := s.ports.modify p f } :=
  h.writePorts _ (fun i q => if p = i then f q else q)
    (fun i => by rw [List.getElem?_modify]; rfl)
    fun i q hq => by
      split_ifs with hi
      · exact hf q (hi ▸ hq)
      · exact ⟨rfl, rfl, fun _ => rfl, fun _ => rfl⟩

/-- A tick writes CNT alone (R184). -/
theorem tickSession_cnt (x : Session) : ∃ c : Data, tickSession x = { x with cnt := c } := by
  unfold tickSession
  split_ifs
  · exact ⟨x.cnt, rfl⟩
  · exact ⟨_, rfl⟩
  · exact ⟨_, rfl⟩

/-- `Tick` (R184). -/
theorem State.Coherent.tick {s : State} (h : s.Coherent) : (tickEvent s).Coherent where
  count_le := by simpa [tickEvent] using h.count_le
  session_ok k y hk := by
    rw [tickEvent, List.getElem?_map] at hk
    obtain ⟨x, hx, rfl⟩ := Option.map_eq_some_iff.mp hk
    obtain ⟨c, hc⟩ := tickSession_cnt x
    exact hc ▸ { h.session_ok k x hx with }
  port_ok p q hq :=
    { h.port_ok p q hq with
      held := fun ho => by
        obtain ⟨x, hx, hopen, hsel⟩ := (h.port_ok p q hq).held ho
        obtain ⟨c, hc⟩ := tickSession_cnt x
        exact ⟨{ x with cnt := c }, by simp [tickEvent, hx, hc], hopen, hsel⟩ }
  pending_ok k y hk := by
    rw [tickEvent, List.getElem?_map] at hk
    obtain ⟨x, hx, rfl⟩ := Option.map_eq_some_iff.mp hk
    obtain ⟨c, hc⟩ := tickSession_cnt x
    exact hc ▸ { h.pending_ok k x hx with }

/-! ### Every event -/

/-- The invariant before `Settle` says nothing of the session operand. -/
theorem State.Coherent.withSel {s : State} (h : s.Coherent) (k : Nat) : State.Coherent { s with sel := k } :=
  ⟨h.count_le, h.session_ok, h.port_ok, h.pending_ok⟩

/-- A write to a session register as work of that session's engine. -/
theorem writeSession_onSession (k : Nat) (v : Word) (r : SessionReg) (s : State) :
    { s with sessions := s.sessions.modify k (writeSessionReg v r) } =
      s.onSession k fun e => { e with ses := writeSessionReg v r e.ses } := by
  rcases s.onSession_cases k fun e => { e with ses := writeSessionReg v r e.ses } with ⟨hnone, hs⟩ | ⟨x, hx, hs⟩
  · rw [hs, List.modify_eq_self (List.getElem?_eq_none_iff.mp hnone)]
  · rw [hs, modify_eq_set _ _ _ _ hx]
    rfl

/-- A transmit completion as work of the owner's engine (R182). -/
theorem txDone_onSession (p k : Nat) (x : Session) (s : State) (hx : s.sessions[k]? = some x) :
    (s.txIdle p).onSession k countSent = s.withEngine k ((s.engine k x).txDone p) := by
  rw [State.onSession_some k countSent (s.txIdle p) x hx]
  rfl

/-- Every effect of an event keeps the invariant up to the `Settle` that follows. -/
theorem EventEffect.coherent {i : Input} {s u : State} (h : EventEffect s i u) (hs : s.Coherent) : u.Coherent := by
  cases h with
  | command _ _ k i _ _ _ hexec =>
    obtain ⟨body, hbody, hlaunch⟩ := exec_soundBody i
    obtain rfl := Host.Outcome.next.inj ((hlaunch _).symm.trans hexec)
    exact (hs.withSel k).onSession k fun e => launchOn_goesTo _ hbody
  | reserved _ _ k op => exact (hs.withSel k).onSession k fun e => launchOn_goesTo op (soundBody_endOp .illegalOp)
  | writeSession _ v k r =>
    rw [writeSession_onSession]
    exact hs.onSession k fun e => writeSessionReg_goesTo v r
  | writeGlobal _ v r =>
    cases r with
    | portEnable =>
      exact hs.writePorts _ (fun p q => { q with enable := v.getLsbD p }) (fun p => List.getElem?_mapIdx)
        fun _ _ _ => ⟨rfl, rfl, fun _ => rfl, fun _ => rfl⟩
    | id | portOwner | portStat | irqStat => exact hs
  | writeNothing => exact hs
  | read => exact ⟨hs.count_le, hs.session_ok, hs.port_ok, hs.pending_ok⟩
  | rxDropped => exact hs
  | rxDelivered _ b ferr => exact hs.onSession _ fun e => receiveOctet_goesTo b ferr
  | txDoneFree p q hq _ hown =>
    refine hs.modifyPort p _ fun r hr => ?_
    obtain rfl := Option.some.inj (hq.symm.trans hr)
    exact ⟨rfl, rfl, fun ho => absurd (hown.symm.trans ho) nofun, fun _ => rfl⟩
  | txDoneHeld p q hq hb hown =>
    obtain ⟨x, hx, -⟩ := (hs.port_ok p q hq).held hown
    rw [txDone_onSession p _ x s hx]
    exact hs.withEngine hx (txDone_goesTo (hs.engine_sound hx) hq hb hown rfl)
  | present p v => exact hs.modifyPort p _ fun _ _ => ⟨rfl, rfl, fun _ => rfl, fun _ => rfl⟩
  | tick => exact hs.tick
  | clkTick => exact hs.tick

/-! ### Reset -/

/-- A session after reset is as R35 says, and IDLE (R351). -/
theorem sessionReset_ok (ports : List Port) (n k : Nat) : SessionOk ports k (Session.reset n k) :=
  ⟨⟨nofun, fun h => absurd rfl h⟩, nofun, fun _ => rfl, le_rfl, Nat.zero_le 5, Nat.zero_le 5, Nat.succ_pos 999,
    Nat.succ_pos 999, nofun⟩

/-- The records after reset (R351) meet the invariant, for every count that R6 allows. -/
theorem inv_of_reset {s : State} {n ns : Nat} {present : List Bool}
    (hsessions : s.sessions = (List.range ns).map (Session.reset n)) (hports : s.ports = present.map Port.reset)
    (hns : 1 ≤ ns ∧ ns ≤ 8) (hnp : 1 ≤ present.length ∧ present.length ≤ 8) : s.Inv := by
  have hsession (k : Nat) (x : Session) (hk : s.sessions[k]? = some x) : x = Session.reset n k := by
    rw [hsessions, List.getElem?_map] at hk
    obtain ⟨j, hj, rfl⟩ := Option.map_eq_some_iff.mp hk
    obtain ⟨hlt, rfl⟩ := List.getElem?_eq_some_iff.mp hj
    rw [List.getElem_range]
  have hport (p : Nat) (q : Port) (hp : s.ports[p]? = some q) : ∃ v, q = Port.reset v := by
    rw [hports, List.getElem?_map] at hp
    obtain ⟨v, -, rfl⟩ := Option.map_eq_some_iff.mp hp
    exact ⟨v, rfl⟩
  refine ⟨by simpa [hsessions] using hns, by simpa [hports] using hnp, ?session, ?port, ?settled⟩
  case session =>
    intro k x hk
    exact hsession k x hk ▸ sessionReset_ok s.ports n k
  case port =>
    intro p q hp
    obtain ⟨v, rfl⟩ := hport p q hp
    exact ⟨nofun, fun _ => rfl⟩
  case settled =>
    intro k x hk
    exact settledOk_idle _ _ (hsession k x hk ▸ rfl)

/-- Reset leaves a state that meets the invariant, the counts being R6's. -/
theorem resetEvent_inv (during : Option BusAccess) {s : State} (h : s.Inv) : (resetEvent during s).Inv := by
  have hports : s.ports.map (fun q => Port.reset q.present) = (s.ports.map (·.present)).map Port.reset := by simp
  have hcount : 1 ≤ (s.ports.map (·.present)).length ∧ (s.ports.map (·.present)).length ≤ 8 := by
    simpa using h.ports_count
  rcases during with - | ⟨a, v⟩ | ⟨a⟩ <;> exact inv_of_reset rfl hports h.sessions_count hcount

/-- Settles O53: State.reset is a reset of two sessions and two ports. -/
theorem resetStateMeetsTheInvariant : Obligations.ResetStateMeetsTheInvariant :=
  inv_of_reset (n := Config.numPorts) (ns := Config.numSessions) (present := List.replicate Config.numPorts false)
    rfl rfl (by decide) (by decide)

/-- What the invariant says is said of the records alone. -/
theorem State.Inv.of_records_eq {s t : State} (h : s.Inv) (hsessions : t.sessions = s.sessions)
    (hports : t.ports = s.ports) : t.Inv := by
  obtain ⟨h1, h2, h3, h4, h5⟩ := h
  constructor <;> simpa only [hsessions, hports]

/-- One event keeps the invariant. -/
theorem stepEvent_inv (i : Input) {s t : State} (hs : s.Inv) (h : stepEvent i s = .next t) : t.Inv := by
  rcases stepEvent_cases i s t h with ⟨u, hu, rfl⟩ | ⟨during, -, rfl⟩ | ⟨-, -, rfl⟩
  · have hblock := hu.sameBlock
    exact (hu.coherent hs.coherent).settleAll_inv (hblock.sessions.symm ▸ hs.sessions_count.1)
      (hblock.ports.symm ▸ hs.ports_count)
  · exact resetEvent_inv during hs
  · exact hs.of_records_eq rfl rfl

/-- Settles O54: an event's effect keeps the invariant up to what is pending of each transaction, and `Settle` restores
the rest. -/
theorem stepKeepsTheInvariant : Obligations.StepKeepsTheInvariant := by
  intro s t hs h
  cases hin : s.inputs with
  | nil =>
    simp only [step, hin] at h
    exact Host.Outcome.next.inj h ▸ hs
  | cons i rest =>
    have hs' : State.Inv { s with inputs := rest } := hs.of_records_eq rfl rfl
    exact stepEvent_inv i hs' ((step_cons s i rest hin).symm.trans h)

end Sys2Proof.Machine

/-! PROOFS. The register space: which register an address selects (R36, R51, R70), what each reads and what a write to it
stores (R37 to R50, R71 to R75). -/

namespace Sys2Proof.Machine

/-! ### The register an address selects -/

/-- The block an address lies in (R36). -/
theorem addr_block (a : Addr) : (a.extractLsb' 6 5).toNat = a.toNat / 64 := by
  simp only [BitVec.extractLsb'_toNat, Nat.shiftRight_eq_div_pow]
  omega

/-- The word offset of an address in its block (R36, R96). -/
theorem addr_offset (a : Addr) : (a.extractLsb' 2 4).toNat = a.toNat / 4 % 16 := by
  simp only [BitVec.extractLsb'_toNat, Nat.shiftRight_eq_div_pow, Nat.reducePow]

/-- R36: the register at byte offset `off` of the block of a session that exists. -/
theorem selectReg_session (n k off : Nat) (r : SessionReg) (hk : k < n) (hk8 : k < 8) (hoff : off < 64)
    (hr : sessionReg? (off / 4) = some r) : selectReg n (BitVec.ofNat 11 (0x40 * k + off)) = .session k r := by
  have ha : (BitVec.ofNat 11 (0x40 * k + off)).toNat = 0x40 * k + off := by
    rw [BitVec.toNat_ofNat]
    omega
  have hblock : (0x40 * k + off) / 64 = k := by omega
  have hword : (0x40 * k + off) / 4 % 16 = off / 4 := by omega
  have hk16 : k < 16 := by omega
  simp only [selectReg, addr_block, addr_offset, ha, hblock, hword, hr, if_pos hk16, if_pos hk]

/-- R36, R51: no register in the block of a session that does not exist, nor at word offset 15 of a session block. -/
theorem selectReg_unused_session (n : Nat) (a : Addr) (ha : a.toNat < 0x400)
    (h : n ≤ a.toNat / 64 ∨ a.toNat / 4 % 16 = 15) : selectReg n a = .nothing := by
  have hblock : a.toNat / 64 < 16 := by omega
  simp only [selectReg, addr_block, addr_offset, if_pos hblock]
  rcases h with hn | h15
  · rw [if_neg (by omega)]
  · simp only [h15, sessionReg?, ite_self]

/-- R70: no register past IRQ_STAT. -/
theorem selectReg_unused_global (n : Nat) (a : Addr) (ha : 0x414 ≤ a.toNat) : selectReg n a = .nothing := by
  have hblock : ¬a.toNat / 64 < 16 := by omega
  simp only [selectReg, addr_block, addr_offset, if_neg hblock]
  split_ifs
  · obtain ⟨i, hi⟩ : ∃ i, a.toNat / 4 % 16 = i + 5 := ⟨a.toNat / 4 % 16 - 5, by omega⟩
    simp only [hi, globalReg?]
  · rfl

/-! R70: the addresses of the global registers. -/

theorem selectReg_id (n : Nat) : selectReg n 0x400#11 = .global .id := rfl
theorem selectReg_portEnable (n : Nat) : selectReg n 0x404#11 = .global .portEnable := rfl
theorem selectReg_portOwner (n : Nat) : selectReg n 0x408#11 = .global .portOwner := rfl
theorem selectReg_portStat (n : Nat) : selectReg n 0x40C#11 = .global .portStat := rfl
theorem selectReg_irqStat (n : Nat) : selectReg n 0x410#11 = .global .irqStat := rfl

/-! ### Reads and writes through the address -/

/-- R51: what no register has reads 0. -/
theorem readReg_nothing (s : State) (a : Addr) (h : selectReg s.sessions.length a = .nothing) : readReg s a = 0#32 := by
  simp [readReg, h]

/-- R51: what no register has ignores writes. -/
theorem hostWrite_nothing (s : State) (a : Addr) (v : Word) (h : selectReg s.sessions.length a = .nothing) :
    hostWrite a v s = .next s := by
  simp [hostWrite, h]

theorem readReg_global (s : State) (a : Addr) (r : GlobalReg) (h : selectReg s.sessions.length a = .global r) :
    readReg s a = readGlobalReg s r := by
  simp [readReg, h]

theorem hostWrite_global (s : State) (a : Addr) (v : Word) (r : GlobalReg)
    (h : selectReg s.sessions.length a = .global r) : hostWrite a v s = .next (writeGlobalReg v r s) := by
  simp [hostWrite, h]

/-- A read at a session register's offset (R36, R94). -/
theorem readReg_session {s : State} {k : Nat} {x : Session} (hx : s.sessions[k]? = some x) (hk : k < 8) (off : Nat)
    (r : SessionReg) (hoff : off < 64) (hr : sessionReg? (off / 4) = some r) :
    readReg s (BitVec.ofNat 11 (0x40 * k + off)) = readSessionReg x r := by
  have hlt : k < s.sessions.length := (List.getElem?_eq_some_iff.mp hx).1
  simp only [readReg, selectReg_session _ k off r hlt hk hoff hr, hx]

/-- A write at the offset of a session register other than CTRL (R36, R95). -/
theorem hostWrite_session {s : State} {k : Nat} {x : Session} (hx : s.sessions[k]? = some x) (hk : k < 8) (v : Word)
    (off : Nat) (r : SessionReg) (hoff : off < 64) (hr : sessionReg? (off / 4) = some r) (hctrl : r ≠ .ctrl) :
    hostWrite (BitVec.ofNat 11 (0x40 * k + off)) v s = .next (s.setSession k (writeSessionReg v r x)) := by
  have hlt : k < s.sessions.length := (List.getElem?_eq_some_iff.mp hx).1
  simp [hostWrite, selectReg_session _ k off r hlt hk hoff hr, modify_eq_set _ _ _ _ hx, State.setSession]

/-- Putting back the record that is there. -/
theorem State.setSession_self {s : State} {k : Nat} {x : Session} (hx : s.sessions[k]? = some x) :
    s.setSession k x = s := by
  rw [State.setSession, set_getElem?_self s.sessions k x hx]

/-- Settles O44: no register is selected. -/
theorem unusedAddressesReadZeroAndIgnoreWrites : Obligations.UnusedAddressesReadZeroAndIgnoreWrites := by
  intro s a v h
  have hsel : selectReg s.sessions.length a = .nothing := by
    rcases h with ⟨ha, h⟩ | ha
    · exact selectReg_unused_session _ a ha h
    · exact selectReg_unused_global _ a ha
  exact ⟨readReg_nothing s a hsel, hostWrite_nothing s a v hsel⟩

/-! ### The writable session registers -/

/-- Settles O46: STAT is at offset 0x04, and a flag is kept where its bit is 0. -/
theorem statWriteClearsTheChosenFlags : Obligations.StatWriteClearsTheChosenFlags := by
  intro s k x v hx hk
  have hflag (f b : Bool) : (f && !b) = if b = true then false else f := by cases b <;> simp
  rw [hostWrite_session hx hk v 0x04 .stat (by decide) rfl nofun, writeSessionReg, clearFlags]
  simp only [hflag]

/-- R43: a timeout is stored as written, but 1 for 0. -/
theorem warlTimeout_eq_max (v : Data) : warlTimeout v = BitVec.ofNat 16 (max 1 v.toNat) := by
  unfold warlTimeout
  split_ifs with h
  · subst h
    rfl
  · have hpos : 1 ≤ v.toNat := by bv_omega
    rw [Nat.max_eq_right hpos, BitVec.ofNat_toNat, BitVec.setWidth_eq]

/-- Settles O47: CFG and TMO are at offsets 0x0C and 0x10; an Open session's record is put back as it was. -/
theorem configurationIsFrozenWhileOpen : Obligations.ConfigurationIsFrozenWhileOpen := by
  intro s k x v hx hk
  have hlow : (v.extractLsb' 0 16).toNat = v.toNat % 65536 := by simp [BitVec.extractLsb'_toNat]
  have hhigh : (v.extractLsb' 16 16).toNat = v.toNat / 65536 := by
    simp only [BitVec.extractLsb'_toNat, Nat.shiftRight_eq_div_pow]
    omega
  rw [hostWrite_session hx hk v 0x0C .cfg (by decide) rfl nofun,
    hostWrite_session hx hk v 0x10 .tmo (by decide) rfl nofun]
  cases ho : x.isOpen with
  | true => simp [writeSessionReg, ho, State.setSession_self hx]
  | false => simp [writeSessionReg, ho, storeCfg, storeTmo, warlTimeout_eq_max, hlow, hhigh]

/-- Settles O48: IE, CIN0 and CIN1 are at offsets 0x08, 0x2C and 0x30, and their writes read no flag. -/
theorem enableAndHostFrameAreAlwaysWritable : Obligations.EnableAndHostFrameAreAlwaysWritable := fun _ _ _ v hx hk =>
  ⟨hostWrite_session hx hk v 0x08 .ie (by decide) rfl nofun, hostWrite_session hx hk v 0x2C .cin0 (by decide) rfl nofun,
    hostWrite_session hx hk v 0x30 .cin1 (by decide) rfl nofun⟩

/-! ### STAT -/

/-- The numbers of R301. -/
theorem errCode_number :
    ∀ cn ∈ [(ErrCode.noError, 0), (.connection, 1), (.notOpen, 2), (.validation, 3), (.writeTimeout, 4),
      (.readTimeout, 5), (.checksumMismatch, 6), (.unsupported, 7), (.illegalOp, 8), (.guardState, 9)],
      cn.1.code.toNat = cn.2 := by
  decide

/-- R54: COMM_FAULT is the class of the codes 4, 5 and 6. -/
theorem isCommFault_iff (c : ErrCode) : c.isCommFault = true ↔ c.code.toNat ∈ [4, 5, 6] := by
  cases c <;> decide

/-- The numbers of R33 for PHASE. -/
theorem phase_number : ∀ cn ∈ [(Phase.idle, 0), (.tx, 1), (.rx, 2)], cn.1.code.toNat = cn.2 := by decide

/-- The fields of STAT that are wider than one bit (R38). -/
theorem statWord_fields (x : Session) :
    (statWord x).extractLsb' 4 4 = x.err.code ∧ (statWord x).extractLsb' 13 2 = x.phase.code ∧
      (statWord x).extractLsb' 16 3 = x.rxcnt ∧ (statWord x).extractLsb' 20 4 = gdisCode x.gdis ∧
      (statWord x).extractLsb' 24 8 = x.lastOp := by
  simp (disch := omega) only [statWord, BitVec.extractLsb'_append_eq_of_le, BitVec.extractLsb'_append_eq_of_add_le,
    BitVec.extractLsb'_eq_self, Nat.reduceSub, and_self]

/-- The single-bit fields of STAT (R38). -/
theorem statWord_bits (x : Session) :
    (statWord x).getLsbD 0 = x.isOpen ∧ (statWord x).getLsbD 1 = x.busy ∧ (statWord x).getLsbD 2 = x.done ∧
      (statWord x).getLsbD 3 = x.err.isCommFault ∧ (statWord x).getLsbD 8 = x.guardActive ∧
      (statWord x).getLsbD 9 = x.ckValid ∧ (statWord x).getLsbD 10 = x.rxDrop ∧ (statWord x).getLsbD 11 = x.rxFerr ∧
      (statWord x).getLsbD 12 = x.overrun ∧ (statWord x).getLsbD 15 = false ∧ (statWord x).getLsbD 19 = false := by
  simp only [statWord, BitVec.getLsbD_append]
  simp

/-- Settles O49: STAT is at offset 0x04, and each field of `statWord` at its place. -/
theorem statShowsTheSessionsFields : Obligations.StatShowsTheSessionsFields := by
  intro s k x r hx hk hr
  obtain rfl : r = statWord x := hr.trans (readReg_session hx hk 0x04 .stat (by decide) rfl)
  obtain ⟨hopen, hbusy, hdone, hcomm, hguard, hck, hdrop, hferr, hover, h15, h19⟩ := statWord_bits x
  obtain ⟨herr, hphase, hrxcnt, hgdis, hop⟩ := statWord_fields x
  rw [herr, hphase, hgdis, hcomm]
  refine ⟨hopen, hbusy, hdone, isCommFault_iff x.err, fun c n h => ⟨?err, ?gdis⟩, ?notAttempted, hguard, hck, hdrop,
    hferr, hover, ?phase, h15, hrxcnt, h19, hop⟩
  case err =>
    rintro rfl
    exact errCode_number _ h
  case gdis =>
    intro hc
    rw [hc]
    exact errCode_number (c, n) h
  case notAttempted =>
    intro hc
    rw [hc]
    rfl
  case phase =>
    rintro c n h rfl
    exact phase_number _ h

/-! ### The other session registers -/

/-- The registers that R95 makes read-only. -/
def SessionReg.isReadOnly : SessionReg → Bool
  | .resp | .cksum | .txf0 | .txf1 | .rxf0 | .rxf1 | .sdec | .diag => true
  | .ctrl | .stat | .ie | .cfg | .tmo | .cin0 | .cin1 => false

theorem writeSessionReg_readOnly (v : Word) (r : SessionReg) (x : Session) (h : r.isReadOnly = true) :
    writeSessionReg v r x = x := by
  cases r with
  | resp | cksum | txf0 | txf1 | rxf0 | rxf1 | sdec | diag => rfl
  | ctrl | stat | ie | cfg | tmo | cin0 | cin1 => exact absurd h nofun

/-- R95: a write to a read-only register is ignored. -/
theorem hostWrite_readOnly {s : State} {k : Nat} {x : Session} (hx : s.sessions[k]? = some x) (hk : k < 8) (v : Word)
    (off : Nat) (hoff : off < 64) (hr : (sessionReg? (off / 4)).any SessionReg.isReadOnly = true) :
    hostWrite (BitVec.ofNat 11 (0x40 * k + off)) v s = .next s := by
  obtain ⟨r, hreg, hro⟩ := (Option.any_eq_true _ _).mp hr
  have hctrl : r ≠ .ctrl := by
    rintro rfl
    exact absurd hro nofun
  rw [hostWrite_session hx hk v off r hoff hreg hctrl, writeSessionReg_readOnly v r x hro, State.setSession_self hx]

/-- The fields of IE (R40). -/
theorem ieWord_fields (b : Bool) :
    ((BitVec.ofBool b).zeroExtend 32).getLsbD 0 = b ∧ ((BitVec.ofBool b).zeroExtend 32).extractLsb' 1 31 = 0#31 := by
  cases b <;> decide

/-- The fields of CFG (R41). -/
theorem cfgWord_fields (x : Session) :
    (cfgWord x).extractLsb' 0 8 = x.devAddr ∧ (cfgWord x).extractLsb' 8 3 = x.portSel ∧
      (cfgWord x).extractLsb' 11 21 = 0#21 := by
  simp (disch := omega) only [cfgWord, BitVec.extractLsb'_append_eq_of_le, BitVec.extractLsb'_append_eq_of_add_le,
    BitVec.extractLsb'_eq_self, Nat.reduceSub, and_self]

/-- The fields of TMO (R43). -/
theorem tmoWord_fields (x : Session) :
    (tmoWord x).extractLsb' 0 16 = x.wrT ∧ (tmoWord x).extractLsb' 16 16 = x.rdT := by
  simp (disch := omega) only [tmoWord, BitVec.extractLsb'_append_eq_of_le, BitVec.extractLsb'_append_eq_of_add_le,
    BitVec.extractLsb'_eq_self, Nat.reduceSub, and_self]

/-- The fields of RESP (R44). -/
theorem respWord_fields (x : Session) :
    (respWord x).extractLsb' 0 8 = x.respAddr ∧ (respWord x).extractLsb' 8 8 = x.respCmd ∧
      (respWord x).extractLsb' 16 16 = x.respData := by
  simp (disch := omega) only [respWord, BitVec.extractLsb'_append_eq_of_le, BitVec.extractLsb'_append_eq_of_add_le,
    BitVec.extractLsb'_eq_self, Nat.reduceSub, and_self]

/-- The fields of CKSUM (R45). -/
theorem cksumWord_fields (x : Session) :
    (cksumWord x).extractLsb' 0 8 = x.rxCk ∧ (cksumWord x).extractLsb' 8 8 = x.expCk ∧
      (cksumWord x).extractLsb' 16 8 = x.txCk ∧ (cksumWord x).extractLsb' 24 8 = x.respOp := by
  simp (disch := omega) only [cksumWord, BitVec.extractLsb'_append_eq_of_le, BitVec.extractLsb'_append_eq_of_add_le,
    BitVec.extractLsb'_eq_self, Nat.reduceSub, and_self]

/-- The octets of a frame's low register (R46 to R48). -/
theorem lowWord_fields (f : Frame) :
    f.lowWord.extractLsb' 0 8 = f.b0 ∧ f.lowWord.extractLsb' 8 8 = f.b1 ∧ f.lowWord.extractLsb' 16 8 = f.b2 ∧
      f.lowWord.extractLsb' 24 8 = f.b3 := by
  simp (disch := omega) only [Frame.lowWord, BitVec.extractLsb'_append_eq_of_le, BitVec.extractLsb'_append_eq_of_add_le,
    BitVec.extractLsb'_eq_self, Nat.reduceSub, and_self]

/-- The numbers of R33 for CONN_CAUSE. -/
theorem connCause_number :
    ∀ cn ∈ [(ConnCause.noCause, 0), (.absent, 1), (.busy, 2), (.permission, 3)], cn.1.code.toNat = cn.2 := by decide

/-- The fields of DIAG (R50). -/
theorem diagWord_fields (x : Session) :
    (diagWord x).extractLsb' 0 2 = x.connCause.code ∧ (diagWord x).extractLsb' 2 2 = 0#2 ∧
      (diagWord x).extractLsb' 4 3 = x.txLoaded ∧ (diagWord x).extractLsb' 8 3 = x.txSent ∧
      (diagWord x).extractLsb' 11 5 = 0#5 ∧ (diagWord x).extractLsb' 16 16 = x.cnt := by
  simp (disch := omega) only [diagWord, BitVec.extractLsb'_append_eq_of_le,
    BitVec.extractLsb'_append_eq_of_add_le, BitVec.extractLsb'_eq_self, Nat.reduceSub, and_self]

/-- Bit 7 of DIAG is unused (R50). -/
theorem diagWord_bit7 (x : Session) : (diagWord x).getLsbD 7 = false := by
  simp only [diagWord, BitVec.getLsbD_append]
  simp

/-- Settles O60: each offset selects its register, and each register shows its fields at their places. -/
theorem sessionRegistersShowTheirFields : Obligations.SessionRegistersShowTheirFields := by
  intro s k x r hx hk hr
  have hread (off : Nat) (reg : SessionReg) (hoff : off < 64) (hreg : sessionReg? (off / 4) = some reg) :
      r off = readSessionReg x reg := (hr off).trans (readReg_session hx hk off reg hoff hreg)
  have hie := hread 0x08 .ie (by decide) rfl
  have hcfg := hread 0x0C .cfg (by decide) rfl
  have htmo := hread 0x10 .tmo (by decide) rfl
  have hresp := hread 0x14 .resp (by decide) rfl
  have hcksum := hread 0x18 .cksum (by decide) rfl
  have hdiag := hread 0x38 .diag (by decide) rfl
  simp only [readSessionReg] at hie hcfg htmo hresp hcksum hdiag
  obtain ⟨hie0, hie1⟩ := ieWord_fields x.doneIe
  obtain ⟨haddr, hport, hcfg11⟩ := cfgWord_fields x
  obtain ⟨hwr, hrd⟩ := tmoWord_fields x
  obtain ⟨hraddr, hrcmd, hrdata⟩ := respWord_fields x
  obtain ⟨hrx, hexp, htx, hrop⟩ := cksumWord_fields x
  obtain ⟨hcause, hd2, hloaded, hsent, hd11, hcnt⟩ := diagWord_fields x
  rw [hie, hcfg, htmo, hresp, hcksum, hdiag, hcause]
  refine ⟨hread 0x00 .ctrl (by decide) rfl, hie0, hie1, haddr, hport, hcfg11, hwr, hrd, hraddr, hrcmd, hrdata, hrx,
    hexp, htx, hrop, ?frames, ?cause, hd2, hloaded, diagWord_bit7 x, hsent, hd11, hcnt, ?readOnly⟩
  case frames =>
    have hframe (off : Nat) (f : Frame) (hlow : r off = f.lowWord) (hhigh : r (off + 4) = f.highWord) :
        (r off).extractLsb' 0 8 = f.b0 ∧ (r off).extractLsb' 8 8 = f.b1 ∧ (r off).extractLsb' 16 8 = f.b2 ∧
          (r off).extractLsb' 24 8 = f.b3 ∧ r (off + 4) = f.b4.zeroExtend 32 := by
      obtain ⟨h0, h1, h2, h3⟩ := lowWord_fields f
      rw [hlow]
      exact ⟨h0, h1, h2, h3, hhigh⟩
    intro off f hmem
    simp only [List.mem_cons, Prod.mk.injEq, List.not_mem_nil, or_false] at hmem
    rcases hmem with ⟨rfl, rfl⟩ | ⟨rfl, rfl⟩ | ⟨rfl, rfl⟩
    · exact hframe _ _ (hread 0x1C .txf0 (by decide) rfl) (hread 0x20 .txf1 (by decide) rfl)
    · exact hframe _ _ (hread 0x24 .rxf0 (by decide) rfl) (hread 0x28 .rxf1 (by decide) rfl)
    · exact hframe _ _ (hread 0x2C .cin0 (by decide) rfl) (hread 0x30 .cin1 (by decide) rfl)
  case cause =>
    rintro c n h rfl
    exact connCause_number _ h
  case readOnly =>
    have hreg : ∀ off ∈ [0x14, 0x18, 0x1C, 0x20, 0x24, 0x28, 0x34, 0x38],
        off < 64 ∧ (sessionReg? (off / 4)).any SessionReg.isReadOnly = true := by decide
    intro off hoff v
    obtain ⟨hlt, hro⟩ := hreg off hoff
    exact hostWrite_readOnly hx hk v off hlt hro

/-! ### Words packed from a list -/

/-- Bit `i` of a packed word is entry `i`, and 0 where there is none. -/
theorem packBits_getElem (l : List Bool) (i : Nat) (hi : i < 32) : (packBits l)[i] = l[i]?.getD false := by
  induction l generalizing i with
  | nil => simp [packBits]
  | cons b bs ih =>
    cases i with
    | zero => simp [packBits]
    | succ i => simp [packBits, ih]

theorem packBits_past_end (l : List Bool) (i : Nat) (h : l[i]? = none) : (packBits l).getLsbD i = false := by
  by_cases hi : i < 32
  · simp [hi, packBits_getElem, h]
  · exact BitVec.getLsbD_of_ge _ _ (Nat.le_of_not_lt hi)

/-- Bit `i` of a word packed from nibbles is bit `i % 4` of nibble `i / 4`. -/
theorem packNibbles_getElem (l : List (BitVec 4)) (i : Nat) (hi : i < 32) :
    (packNibbles l)[i] = (l[i / 4]?.getD 0#4).getLsbD (i % 4) := by
  induction l generalizing i with
  | nil => simp [packNibbles]
  | cons n ns ih =>
    by_cases hlow : i < 4
    · simp [packNibbles, hlow, Nat.div_eq_of_lt hlow, Nat.mod_eq_of_lt hlow]
    · obtain ⟨j, rfl⟩ : ∃ j, i = j + 4 := ⟨i - 4, by omega⟩
      simp [packNibbles, ih]

/-- Nibble `p` of a packed word is entry `p`, of the eight there can be. -/
theorem packNibbles_extract (l : List (BitVec 4)) (p : Nat) (hp : p < 8) :
    (packNibbles l).extractLsb' (4 * p) 4 = l[p]?.getD 0#4 := by
  apply BitVec.eq_of_getLsbD_eq
  intro i hi
  have hlt : 4 * p + i < 32 := by omega
  have hdiv : (4 * p + i) / 4 = p := by omega
  have hmod : (4 * p + i) % 4 = i := by omega
  simp [packNibbles_getElem, hi, hlt, hdiv, hmod]

/-- No bit stands past the word. -/
theorem extract_past_word (w : Word) (p : Nat) (hp : 8 ≤ p) : w.extractLsb' (4 * p) 4 = 0#4 := by
  apply BitVec.eq_of_getLsbD_eq
  intro i hi
  rw [BitVec.getLsbD_extractLsb', BitVec.getLsbD_of_ge w _ (by omega)]
  simp

/-! ### The global registers -/

/-- The fields of ID (R71). -/
theorem idWord_fields (s : State) :
    (idWord s).extractLsb' 0 4 = BitVec.ofNat 4 s.sessions.length ∧
      (idWord s).extractLsb' 4 4 = BitVec.ofNat 4 s.ports.length ∧ (idWord s).extractLsb' 9 7 = 0#7 ∧
      (idWord s).extractLsb' 16 8 = s.params.opmapId ∧ (idWord s).extractLsb' 24 8 = blockVersion := by
  simp (disch := omega) only [idWord, BitVec.extractLsb'_append_eq_of_le, BitVec.extractLsb'_append_eq_of_add_le,
    BitVec.extractLsb'_eq_self, Nat.reduceSub, and_self]

/-- Bit 8 of ID tells the checksum algorithm (R71). -/
theorem idWord_alg (s : State) : (idWord s).getLsbD 8 = true ↔ s.params.checksumAlg = .xor8 := by
  have hbit : (idWord s).getLsbD 8 = (algBit s.params.checksumAlg).getLsbD 0 := by
    simp only [idWord, BitVec.getLsbD_append]
    simp
  rw [hbit]
  cases s.params.checksumAlg <;> decide

/-- What PORT_ENABLE, PORT_OWNER and PORT_STAT show of a port that exists (R72 to R74). -/
theorem portRegisters_of_port (s : State) (hports : s.ports.length ≤ 8) (p : Nat) (q : Port)
    (hq : s.ports[p]? = some q) :
    (readGlobalReg s .portEnable).getLsbD p = q.enable ∧
      (readGlobalReg s .portOwner).extractLsb' (4 * p) 4 = ownerNibble q ∧
      (readGlobalReg s .portStat).getLsbD p = q.present ∧ (readGlobalReg s .portStat).getLsbD (8 + p) = q.txBusy := by
  have hp : p < 8 := (List.getElem?_eq_some_iff.mp hq).1.trans_le hports
  have hp32 : p < 32 := by omega
  have hbusy : 8 + p < 32 := by omega
  have hpast : s.ports[8 + p]? = none := List.getElem?_eq_none (by omega)
  refine ⟨?_, ?_, ?_, ?_⟩
  · simp [readGlobalReg, packBits_getElem, hq, hp32]
  · simp [readGlobalReg, packNibbles_extract _ p hp, hq]
  · simp [readGlobalReg, packBits_getElem, hq, hp, hp32]
  · simp [readGlobalReg, packBits_getElem, hq, hbusy, hpast]

/-- What they show of a port that does not exist. -/
theorem portRegisters_of_no_port (s : State) (p : Nat) (hp : s.ports.length ≤ p) :
    (readGlobalReg s .portEnable).getLsbD p = false ∧ (readGlobalReg s .portOwner).extractLsb' (4 * p) 4 = 0#4 ∧
      (p < 8 → (readGlobalReg s .portStat).getLsbD p = false) ∧
      (readGlobalReg s .portStat).getLsbD (8 + p) = false := by
  have hnone : s.ports[p]? = none := List.getElem?_eq_none hp
  have hpast : s.ports[8 + p]? = none := List.getElem?_eq_none (by omega)
  have hbit (f : Port → Bool) : (packBits (s.ports.map f)).getLsbD p = false := packBits_past_end _ p (by simp [hnone])
  have hbit8 (f : Port → Bool) : (packBits (s.ports.map f)).getLsbD (8 + p) = false :=
    packBits_past_end _ _ (by simp [hpast])
  refine ⟨hbit _, ?_, fun hp8 => ?_, ?_⟩
  · rcases Nat.lt_or_ge p 8 with hp8 | hp8
    · simp [readGlobalReg, packNibbles_extract _ p hp8, hnone]
    · exact extract_past_word _ p hp8
  · simp [readGlobalReg, hbit, hp8]
  · simp [readGlobalReg, hbit, hbit8]

/-- A held port's nibble is 8 and its OWNER, a free port's 0 (R73). -/
theorem ownerNibble_eq (q : Port) :
    ownerNibble q = if q.owned = true then 8#4 + q.owner.zeroExtend 4 else 0#4 := by
  have happend : ∀ o : BitVec 3, 1#1 ++ o = 8#4 + o.zeroExtend 4 := by decide
  rw [ownerNibble, ← happend]

/-- R95: the global registers but PORT_ENABLE ignore writes. -/
theorem hostWrite_global_readOnly (s : State) (v : Word) :
    ∀ a ∈ [0x400#11, 0x408#11, 0x40C#11, 0x410#11], hostWrite a v s = .next s := by
  intro a ha
  simp only [List.mem_cons, List.not_mem_nil, or_false] at ha
  rcases ha with rfl | rfl | rfl | rfl
  · exact hostWrite_global s _ v .id (selectReg_id _)
  · exact hostWrite_global s _ v .portOwner (selectReg_portOwner _)
  · exact hostWrite_global s _ v .portStat (selectReg_portStat _)
  · exact hostWrite_global s _ v .irqStat (selectReg_irqStat _)

/-- Settles O51: each address selects its register, whose entries are the ports' fields. -/
theorem globalRegistersShowThePorts : Obligations.GlobalRegistersShowThePorts := by
  intro s _ hports
  obtain ⟨hsessions, hcount, hid9, hopmap, hversion⟩ := idWord_fields s
  rw [readReg_global s _ .id (selectReg_id _), readReg_global s _ .portEnable (selectReg_portEnable _),
    readReg_global s _ .portOwner (selectReg_portOwner _), readReg_global s _ .portStat (selectReg_portStat _)]
  refine ⟨hsessions, hcount, idWord_alg s, hid9, hopmap, hversion, fun p q hq => ?port,
    portRegisters_of_no_port s, fun a ha v => hostWrite_global_readOnly s v a ha, fun v => ?write⟩
  case port => exact ownerNibble_eq q ▸ portRegisters_of_port s hports p q hq
  case write =>
    refine ⟨_, hostWrite_global s _ v .portEnable (selectReg_portEnable _), rfl, ?_, fun p q hq => ?_⟩
    · simp [writeGlobalReg, storePortEnable]
    · simp [writeGlobalReg, storePortEnable, hq]

/-- Settles O52: IRQ_STAT packs the sessions' interrupt terms, and `irq` is their disjunction. -/
theorem interruptFollowsDoneAndEnable : Obligations.InterruptFollowsDoneAndEnable := by
  intro s
  rw [readReg_global s _ .irqStat (selectReg_irqStat _), readGlobalReg]
  refine ⟨?irq, fun k x hcount hx => ?shown, fun k hk => packBits_past_end _ k (by simp [hk])⟩
  case irq =>
    simp only [State.irq, List.any_eq_true, List.mem_iff_getElem?, irqTerm, Bool.and_eq_true]
    exact ⟨fun ⟨x, ⟨k, hk⟩, hx⟩ => ⟨k, x, hk, hx⟩, fun ⟨k, x, hk, hx⟩ => ⟨x, ⟨k, hk⟩, hx⟩⟩
  case shown =>
    have hk : k < 32 := by
      have := (List.getElem?_eq_some_iff.mp hx).1
      omega
    simp [packBits_getElem, hx, hk, irqTerm]

end Sys2Proof.Machine

/-! PROOFS. The host's view of memory: an access is to a word, whatever byte of it the address names, and none faults
(R96). -/

namespace Sys2Proof.Machine

/-- R36, R96: the register an address selects depends on the word number alone. -/
theorem selectReg_of_same_word (n : Nat) {a b : Addr} (h : a.toNat / 4 = b.toNat / 4) :
    selectReg n a = selectReg n b := by
  have hblock : a.toNat / 64 = b.toNat / 64 := by omega
  simp only [selectReg, addr_block, addr_offset, h, hblock]

/-- R221, R311: every command word's launch answers a next state. -/
theorem launchWord_answers (k : Nat) (w : Word) (s : State) : ∃ t, launchWord k w s = .next t := by
  cases hdec : decode w with
  | ok i =>
    obtain ⟨body, hbody⟩ := exec_is_launch i
    exact ⟨_, (launchWord_ok k w i s hdec).trans (hbody _)⟩
  | error err =>
    obtain ⟨op⟩ := err
    exact ⟨_, launchWord_reserved k w op s hdec⟩

/-- R95, R96: no host write faults. -/
theorem hostWrite_answers (a : Addr) (v : Word) (s : State) : ∃ t, hostWrite a v s = .next t := by
  cases hsel : selectReg s.sessions.length a with
  | session k r =>
    by_cases hr : r = .ctrl
    · rw [hostWrite_ctrl k a v s (hr ▸ hsel)]
      exact launchWord_answers k v s
    · exact ⟨{ s with sessions := s.sessions.modify k (writeSessionReg v r) }, by simp [hostWrite, hsel]⟩
  | global r => exact ⟨_, hostWrite_global s a v r hsel⟩
  | nothing => exact ⟨s, hostWrite_nothing s a v hsel⟩

/-- Settles O45: both accesses see only the register the address selects. -/
theorem lowAddressBitsAreIgnored : Obligations.LowAddressBitsAreIgnored := by
  intro s a b v h
  have hsel := selectReg_of_same_word s.sessions.length h
  exact ⟨by simp only [readReg, hsel], by simp only [hostWrite, hsel], hostWrite_answers a v s⟩

end Sys2Proof.Machine

/-! PROOFS. Sessions do not interfere (R105). An event leaves a session at rest when its record is as it was and it is
still settled with the ports as the event leaves them: `Settle` then has nothing to do for it, and the other sessions'
`Settle` does not reach the port it holds. -/

namespace Sys2Proof.Machine

/-! ### A settled session -/

/-- In phase TX the transmitter is busy, so the hand-off waits (R183, R188). -/
theorem handOff_settled {e : Engine} (h : SettledOk e.ports e.ses) : handOff e = e := by
  by_cases hp : e.ses.phase = .tx
  · obtain ⟨q, hq, hb, -⟩ := h.tx_busy hp
    exact handOff_waits e q hq fun hload => absurd (hb.symm.trans hload.2) nofun
  · exact handOff_not_tx e hp

/-- The write phase has octets still to send (R186, R188). -/
theorem writePhaseEnd_settled {e : Engine} (h : SettledOk e.ports e.ses) : writePhaseEnd e = e := by
  rcases writePhaseEnd_cases e with ⟨-, hw⟩ | ⟨hp, hsent, -⟩
  · exact hw
  · exact absurd (congrArg BitVec.toNat hsent) (h.tx_bounds hp).1.ne

/-- No phase of a settled session ends: neither completion nor a timeout is due (R185, R188). -/
theorem phaseOutcome_settled {e : Engine} (h : SettledOk e.ports e.ses) : phaseOutcome e = e := by
  rcases phaseOutcome_cases e with ⟨hp, hcnt, -⟩ | ⟨hp, hto, -⟩ | ⟨hp, -, hto, -⟩ | ⟨-, -, ho⟩
  · exact absurd (congrArg BitVec.toNat hcnt) (h.rx_bounds hp).1.ne
  · exact absurd hto (h.tx_bounds hp).2.not_ge
  · obtain ⟨-, hcnt, -⟩ := h.rx_bounds hp
    exact absurd hto hcnt.not_ge
  · exact ho

/-- R188: "after it, no condition of `Settle` holds again until the next event". -/
theorem settle_settled {e : Engine} (h : SettledOk e.ports e.ses) : settle e = e := by
  by_cases hp : e.ses.phase = .idle
  · exact settle_idle e hp
  · rw [settle_busy e hp, handOff_settled h, writePhaseEnd_settled h, phaseOutcome_settled h]

/-! ### A session at rest -/

/-- Session `j` has the record `y`, and `Settle` has nothing to do for it. -/
structure State.Rests (s : State) (j : Nat) (y : Session) : Prop where
  record : s.sessions[j]? = some y
  settled : SettledOk s.ports y

theorem State.Inv.rests {s : State} (h : s.Inv) {j : Nat} {y : Session} (hj : s.sessions[j]? = some y) : s.Rests j y :=
  ⟨hj, h.settled_ok j y hj⟩

/-- Another session's engine, within its frame, leaves the session at rest (R105). -/
theorem State.Rests.withEngine {s : State} {j : Nat} {y : Session} (h : s.Rests j y) (hs : s.Coherent) {k : Nat}
    {x : Session} {e : Engine} (hne : j ≠ k) (hf : (s.engine k x).Frame e) : (s.withEngine k e).Rests j y where
  record := by rw [State.withEngine_sessions, List.getElem?_set_ne hne.symm, h.record]
  settled := h.settled.of_port_eq fun hp =>
    hs.port_of_other hf h.record hne ((hs.session_ok j y h.record).open_of_tx hp)

/-- A procedure of another session leaves the session at rest (R105). -/
theorem State.Rests.onSession {s : State} {j : Nat} {y : Session} (h : s.Rests j y) (hs : s.Coherent) {k : Nat}
    {f : Engine → Engine} (hne : j ≠ k) (hf : ∀ e : Engine, e.Sound → e.GoesTo (f e)) :
    (s.onSession k f).Rests j y := by
  rcases s.onSession_cases k f with ⟨-, he⟩ | ⟨x, hx, he⟩
  · exact he.symm ▸ h
  · exact he.symm ▸ h.withEngine hs hne (hf _ (hs.engine_sound hx)).frame

/-- A change of a port that the session does not hold leaves it at rest (R105). -/
theorem State.Rests.modifyPort {s : State} {j : Nat} {y : Session} (h : s.Rests j y) (hs : s.Coherent) {p : Nat}
    (f : Port → Port) (hp : ¬(y.isOpen = true ∧ y.portSel.toNat = p)) :
    State.Rests { s with ports := s.ports.modify p f } j y where
  record := h.record
  settled := h.settled.of_port_eq fun htx =>
    have hne : p ≠ y.portSel.toNat := fun hsel => hp ⟨(hs.session_ok j y h.record).open_of_tx htx, hsel.symm⟩
    List.getElem?_modify_ne f _ hne

/-- `Settle` of a session at rest changes nothing. -/
theorem State.Rests.onSession_settle {s : State} {j : Nat} {y : Session} (h : s.Rests j y) :
    s.onSession j settle = s := by
  have hwork : settle (s.engine j y) = s.engine j y := settle_settled h.settled
  calc s.onSession j settle = s.withEngine j (s.engine j y) := hwork ▸ State.onSession_some j settle s y h.record
    _ = s := State.setSession_self h.record

/-- `Settle` of every session leaves a session at rest as it is (R11, R105). -/
theorem State.Rests.settleUpTo {s : State} {j : Nat} {y : Session} (h : s.Rests j y) (hs : s.Coherent) (n : Nat) :
    (settleUpTo n s).Rests j y := by
  induction n with
  | zero => exact h
  | succ n ih =>
    rcases eq_or_ne j n with rfl | hne
    · rwa [settleUpTo_succ, ih.onSession_settle]
    · exact ih.onSession (hs.settleUpTo_settled n).1 hne fun _ he => (settle_goesTo he).1

/-! ### What an event leaves at rest -/

/-- A host write to a register of session `k` leaves every other session at rest (R92, R105). -/
theorem EventEffect.rests_of_sessionWrite {s u : State} {a : Addr} {v : Word} (h : EventEffect s (.host (.write a v)) u)
    (hs : s.Coherent) {k j : Nat} {r : SessionReg} {y : Session} (hsel : selectReg s.sessions.length a = .session k r)
    (hne : j ≠ k) (hy : s.Rests j y) : u.Rests j y := by
  have hy' : State.Rests { s with sel := k } j y := ⟨hy.record, hy.settled⟩
  cases h with
  | command _ _ k' i _ hsel' _ hexec =>
    obtain ⟨rfl, rfl⟩ := RegSel.session.inj (hsel.symm.trans hsel')
    obtain ⟨body, hbody, hlaunch⟩ := exec_soundBody i
    obtain rfl := Host.Outcome.next.inj ((hlaunch _).symm.trans hexec)
    exact hy'.onSession (hs.withSel k) hne fun _ => launchOn_goesTo _ hbody
  | reserved _ _ k' op hsel' =>
    obtain ⟨rfl, rfl⟩ := RegSel.session.inj (hsel.symm.trans hsel')
    exact hy'.onSession (hs.withSel k) hne fun _ => launchOn_goesTo op (soundBody_endOp .illegalOp)
  | writeSession _ _ k' r' hsel' =>
    obtain ⟨rfl, rfl⟩ := RegSel.session.inj (hsel.symm.trans hsel')
    rw [writeSession_onSession]
    exact hy.onSession hs hne fun _ => writeSessionReg_goesTo v r
  | writeGlobal _ _ r' hsel' => exact absurd (hsel.symm.trans hsel') nofun
  | writeNothing _ _ hsel' => exact absurd (hsel.symm.trans hsel') nofun

/-- The port of a port event (R180, R182, R178). -/
def Input.port? : Input → Option Nat
  | .rxChar p _ _ | .txDone p | .present p _ => some p
  | .host _ | .tick | .reset _ | .clk => none

/-- A session that does not hold a port is not the port's owner (R35 c). -/
theorem State.Coherent.ne_owner {s : State} (hs : s.Coherent) {p j : Nat} {q : Port} {y : Session}
    (hq : s.ports[p]? = some q) (hown : q.owned = true) (hj : s.sessions[j]? = some y)
    (hp : ¬(y.isOpen = true ∧ y.portSel.toNat = p)) : j ≠ q.owner.toNat := by
  rintro rfl
  obtain ⟨x, hx, hholds⟩ := (hs.port_ok p q hq).held hown
  obtain rfl := Option.some.inj (hj.symm.trans hx)
  exact hp hholds

/-- An event of port `p` leaves every session at rest that does not hold `p` (R105, R180, R182). -/
theorem EventEffect.rests_of_portEvent {s u : State} {i : Input} (h : EventEffect s i u) (hs : s.Coherent) {p j : Nat}
    {y : Session} (hi : i.port? = some p) (hp : ¬(y.isOpen = true ∧ y.portSel.toNat = p)) (hy : s.Rests j y) :
    u.Rests j y := by
  cases h with
  | command | reserved | writeSession | writeGlobal | writeNothing | read | tick | clkTick => exact absurd hi nofun
  | rxDropped => exact hy
  | rxDelivered _ b ferr q hq hown =>
    obtain rfl := Option.some.inj hi
    exact hy.onSession hs (hs.ne_owner hq hown hy.record hp) fun _ => receiveOctet_goesTo b ferr
  | txDoneFree =>
    obtain rfl := Option.some.inj hi
    exact hy.modifyPort hs _ hp
  | txDoneHeld _ q hq hbusy hown =>
    obtain rfl := Option.some.inj hi
    obtain ⟨x, hx, -⟩ := (hs.port_ok _ q hq).held hown
    rw [txDone_onSession _ _ x s hx]
    exact hy.withEngine hs (hs.ne_owner hq hown hy.record hp)
      (txDone_goesTo (hs.engine_sound hx) hq hbusy hown rfl).frame
  | present =>
    obtain rfl := Option.some.inj hi
    exact hy.modifyPort hs _ hp

/-! ### The step -/

/-- The step of an event that is neither a reset nor a bare clock edge is an effect and then `Settle` (R11). -/
theorem step_effect {s t : State} {i : Input} {rest : List Input} (hin : s.inputs = i :: rest)
    (hstep : step s = .next t) (hreset : ∀ during, i ≠ .reset during) (hclk : i ≠ .clk) :
    ∃ u, EventEffect { s with inputs := rest } i u ∧ t = settleAll u := by
  rcases stepEvent_cases i _ t ((step_cons s i rest hin).symm.trans hstep) with hu | ⟨during, rfl, -⟩ | ⟨rfl, -⟩
  · exact hu
  · exact absurd rfl (hreset during)
  · exact absurd rfl hclk

/-- Settles O56: the event leaves the other sessions at rest, and so does the `Settle` that ends its step. -/
theorem sessionsDoNotInterfere : Obligations.SessionsDoNotInterfere := by
  intro s t i rest hinv hin hstep
  have hinv' : State.Inv { s with inputs := rest } := hinv.of_records_eq rfl rfl
  refine ⟨?write, ?port⟩
  case write =>
    rintro a v k j r rfl hsel hne
    obtain ⟨u, hu, rfl⟩ := step_effect hin hstep nofun nofun
    cases hj : s.sessions[j]? with
    | none =>
      have hlen : (settleAll u).sessions.length = s.sessions.length :=
        (settleAll_sessions_length u).trans hu.sameBlock.sessions
      rwa [List.getElem?_eq_none_iff, hlen, ← List.getElem?_eq_none_iff]
    | some y =>
      have hrests := hu.rests_of_sessionWrite hinv'.coherent hsel hne (hinv'.rests hj)
      exact (hrests.settleUpTo (hu.coherent hinv'.coherent) _).record
  case port =>
    intro p j y hi hj hp
    have hport : i.port? = some p := by
      rcases hi with ⟨b, f, rfl⟩ | rfl | ⟨v, rfl⟩ <;> rfl
    obtain ⟨u, hu, rfl⟩ := step_effect hin hstep (by rintro during rfl; cases hport) (by rintro rfl; cases hport)
    have hrests := hu.rests_of_portEvent hinv'.coherent hport hp (hinv'.rests hj)
    exact (hrests.settleUpTo (hu.coherent hinv'.coherent) _).record

end Sys2Proof.Machine

/-! PROOFS. The command word (R110 to R116): the fields of a packed word, what the decoder answers for every word, and
that it inverts the encoder. -/

namespace Sys2Proof

/-! ### The fields of a word -/

/-- R110: OP as a number is the word modulo 256. -/
theorem toNat_opField (w : Word) : (opField w).toNat = w.toNat % 256 := by
  simp [opField]

/-- Masking with 0xFF leaves OP. -/
theorem toNat_and_ff (w : Word) : (w &&& 0xFF#32).toNat = (opField w).toNat := by
  rw [toNat_opField, BitVec.toNat_and]
  exact Nat.and_two_pow_sub_one_eq_mod w.toNat 8

/-- R114: CMD occupies bits 15:8 of the word packed from its parts. -/
theorem cmdField_packCommand (op cmd : Byte) (data : Data) : cmdField (packCommand op cmd data) = cmd := by
  apply BitVec.eq_of_getLsbD_eq
  intro i hi
  have h24 : i < 24 := by omega
  have h32 : 8 + i < 32 := by omega
  have h16 : 8 + i < 16 := by omega
  simp [cmdField, packCommand, hi, h32, h16]

/-- R114: DATA occupies bits 31:16 of the word packed from its parts. -/
theorem dataField_packCommand (op cmd : Byte) (data : Data) : dataField (packCommand op cmd data) = data := by
  apply BitVec.eq_of_getLsbD_eq
  intro i hi
  have h32 : 16 + i < 32 := by omega
  have hcmd : cmd.getLsbD (16 + i - 8) = false := BitVec.getLsbD_of_ge _ _ (by omega)
  have hop : op.getLsbD (16 + i) = false := BitVec.getLsbD_of_ge _ _ (by omega)
  simp [dataField, packCommand, hi, h32, hcmd, hop]

/-! ### Decoding the encoded word -/

/-- Settles O2: the three fields of the word read back as packed, and each OP selects its own operation. -/
theorem decodeInvertsEncode : Obligations.DecodeInvertsEncode := by
  intro i
  rw [decode, encode, Laws.OpField.opField_packCommand, cmdField_packCommand, dataField_packCommand]
  cases i <;> rfl

/-! ### What the decoder answers -/

/-- `i` is read from the fields of `w`: OP names it; CMD and DATA are its operands where R110 gives its OP that field,
and are ignored elsewhere (R112). -/
structure ReadFrom (w : Word) (i : Instr) : Prop where
  op : opOf i = opField w
  cmd : cmdOf i = if (opField w).toNat ∈ [0x03, 0x04] then cmdField w else 0#8
  data : dataOf i =
    if (opField w).toNat ∈ [0x03, 0x04, 0x10, 0x12, 0x14, 0x16, 0x18] then dataField w else 0#16

/-- R115, R116: a word is either refused, its OP reserved, or decodes to an operation read from its fields. -/
theorem decode_cases (w : Word) :
    (decode w = .error (.reservedOp (opField w)) ∧ isReservedOp (opField w) = true) ∨
      ∃ i, decode w = .ok i ∧ ReadFrom w i ∧ isReservedOp (opField w) = false := by
  unfold decode
  split
  case h_29 =>
    refine .inl ⟨rfl, ?_⟩
    simp only [isReservedOp, decide_eq_true_eq]
    -- `split` leaves each OP of R115 excluded as `_ → False`, which `omega` reads only as a negation.
    simp only [imp_false] at *
    omega
  all_goals
    rename_i hop
    refine .inr ⟨_, rfl, ⟨BitVec.eq_of_toNat_eq hop.symm, ?cmd, ?data⟩, ?notReserved⟩
    case cmd => simp [cmdOf, hop]
    case data => simp [dataOf, hop]
    case notReserved => simp [isReservedOp, hop]

/-- R110, R112: an operation the decoder answers is read from the word's fields. -/
theorem readFrom_of_decode {w : Word} {i : Instr} (h : decode w = .ok i) : ReadFrom w i := by
  rcases decode_cases w with ⟨herr, -⟩ | ⟨j, hok, hread, -⟩
  · cases herr.symm.trans h
  · cases hok.symm.trans h
    exact hread

/-- R116: the words refused are those whose OP is reserved. -/
theorem decode_eq_reserved_iff (w : Word) :
    decode w = .error (.reservedOp (opField w)) ↔ isReservedOp (opField w) = true := by
  rcases decode_cases w with ⟨herr, hres⟩ | ⟨i, hok, -, hres⟩
  · exact iff_of_true herr hres
  · simp [hok, hres]

/-- Settles O3: the operation is read from the word's fields. -/
theorem decodedFieldsAreTheWordsFields : Obligations.DecodedFieldsAreTheWordsFields := by
  intro w i h
  obtain ⟨hop, hcmd, hdata⟩ := readFrom_of_decode h
  rw [toNat_and_ff]
  exact ⟨hop, hcmd, hdata⟩

/-- Settles O4: the OP values refused are the model's reserved ones, which are R116's ranges. -/
theorem reservedOpsAreExactlyThoseRefused : Obligations.ReservedOpsAreExactlyThoseRefused := by
  intro w
  rw [← toNat_opField]
  exact (decode_eq_reserved_iff w).trans decide_eq_true_iff

/-- Settles O1: each word evaluates to its operation. -/
theorem commandWordsDecode : Obligations.CommandWordsDecode :=
  ⟨rfl, rfl, rfl, rfl, rfl, rfl, rfl, rfl⟩

end Sys2Proof

/-! PROOFS. The frame codec (R140 to R149): the checksums, the round trip, that one changed octet of a valid frame is
detected, and what ENCODE and DECODE leave. -/

namespace Sys2Proof.Machine

/-! ### The checksum -/

/-- Settles O5: SUM8 adds as words do, discarding carries, and XOR8 works bit by bit. -/
theorem additiveChecksumIsSumMod256 : Obligations.AdditiveChecksumIsSumMod256 := by
  intro b0 b1 b2 b3
  refine ⟨?sum, fun i => ?bit⟩
  case sum => simp [ck, sum8, BitVec.toNat_add]
  case bit => simp [ck, xor8]

/-- The checksum tells every value of one of its four octets apart: the octets that stay cancel. -/
theorem expectedCk_put_inj (alg : ChecksumAlg) (f : Frame) (b : Byte) {i : Nat} (hi : i < 4) :
    (f.put i b).expectedCk alg = f.expectedCk alg ↔ b = f.get i := by
  match i, hi with
  | 0, _ | 1, _ | 2, _ | 3, _ => cases alg <;> simp [Frame.expectedCk, Frame.put, Frame.get, ck, sum8, xor8]

/-! ### Decoding a frame -/

/-- R144: a frame is valid when its octet 4 is the checksum of the others. -/
theorem decodeFrame_valid_iff (alg : ChecksumAlg) (f : Frame) :
    (decodeFrame alg f).valid = true ↔ f.b4 = f.expectedCk alg := beq_iff_eq

/-- Settles O6: the checksum is the one compared with, and the two octets of the data join to it again. -/
theorem frameRoundTrip : Obligations.FrameRoundTrip := by
  intro alg a c d
  simp [decodeFrame, Frame.expectedCk, dataHigh_append_dataLow]

/-- Replacing one octet of a valid frame leaves it valid only if the octet stays as it was: any four octets of a valid
frame fix the fifth. -/
theorem eq_get_of_put_valid {alg : ChecksumAlg} {f : Frame} {i : Nat} {b : Byte} (hi : i < 5)
    (hf : (decodeFrame alg f).valid = true) (hput : (decodeFrame alg (f.put i b)).valid = true) : b = f.get i := by
  rw [decodeFrame_valid_iff] at hf hput
  obtain hlt | rfl : i < 4 ∨ i = 4 := by omega
  · have hb4 : (f.put i b).b4 = f.b4 := Frame.get_put_ne f i 4 b hi (by decide) (by omega)
    exact (expectedCk_put_inj alg f b hlt).mp (by rw [← hput, hb4, hf])
  · exact hput.trans hf.symm

/-- Flipping a bit inside an octet changes the octet. -/
theorem flipBit_ne (b : Byte) {k : Nat} (hk : k < 8) : b ^^^ (1#8 <<< k) ≠ b := by
  intro h
  have hbit : (b ^^^ (1#8 <<< k)).getLsbD k = b.getLsbD k := by rw [h]
  simp [hk] at hbit

/-- Settles O7: the flipped octet differs from the one it replaces, so the frame is no longer valid. -/
theorem singleBitChangeIsDetected : Obligations.SingleBitChangeIsDetected := by
  intro alg f i k hf hi hk
  rw [← Bool.not_eq_true]
  exact fun hput => flipBit_ne _ hk (eq_get_of_put_valid hi hf hput)

/-! ### ENCODE and DECODE -/

theorem exec_encode (cmd : Byte) (data : Data) (s : State) :
    exec (.encode cmd data) s = .next (s.launch (opOf (.encode cmd data)) (encodeBody cmd data)) := rfl

theorem exec_decode (s : State) : exec .decode s = .next (s.launch (opOf .decode) decodeBody) := rfl

/-- R221, R306: a command on a ready session whose body writes the session's record alone, to `y` with BUSY and PHASE
as they were, and then ends with code `c`, leaves that record with its outcome and nothing else. -/
theorem launch_of_endOp (op : Byte) {body : Engine → Engine} {c : ErrCode} {s : State} {x y : Session} (h : Ready s x)
    (hbody : body (s.engine s.sel { x with done := false, err := .noError, lastOp := op }) =
      endOp c (s.engine s.sel y))
    (hbusy : y.busy = x.busy) (hphase : y.phase = x.phase) :
    s.launch op body = s.setSession s.sel { y with done := true, err := c } := by
  have ⟨_, hxbusy, hxphase⟩ := h
  have hy : (finish c (s.engine s.sel y)).ses = { y with done := true, err := c } := by
    simp [hbusy, hxbusy, hphase, hxphase]
  rw [State.launch_ready op body s x h, hbody, endOp_idle c _ (hphase.trans hxphase), ← hy]
  rfl

/-- R148: ENCODE's body writes TXF and TX_CK alone. -/
theorem encodeBody_engine (cmd : Byte) (data : Data) (s : State) (k : Nat) (x : Session) :
    encodeBody cmd data (s.engine k x) = endOp .noError (s.engine k { x with
      txf := encodeFrame s.params.checksumAlg x.devAddr cmd data
      txCk := ck s.params.checksumAlg x.devAddr cmd (dataHigh data) (dataLow data) }) := rfl

/-- R149: DECODE's body writes RESP and the checksum fields alone, RESP whatever the comparison. -/
theorem decodeBody_engine (s : State) (k : Nat) (x : Session) :
    decodeBody (s.engine k x) = endOp .noError (s.engine k { x with
      respAddr := x.cin.b0, respCmd := x.cin.b1, respData := x.cin.b2 ++ x.cin.b3, respOp := opOf .decode
      rxCk := x.cin.b4, expCk := x.cin.expectedCk s.params.checksumAlg
      ckValid := decide (x.cin.b4 = x.cin.expectedCk s.params.checksumAlg) }) := rfl

/-- Settles O15: ENCODE is a command that ends in its launching step. -/
theorem encodeWritesTheFrame : Obligations.EncodeWritesTheFrame := by
  intro s x cmd data hready
  rw [exec_encode, launch_of_endOp _ hready (encodeBody_engine ..) rfl rfl]
  rfl

/-- Settles O16: DECODE is a command that ends in its launching step. -/
theorem decodeReportsTheHostsFrame : Obligations.DecodeReportsTheHostsFrame := by
  intro s x hready
  rw [exec_decode, launch_of_endOp _ hready (decodeBody_engine ..) rfl rfl]
  rfl

end Sys2Proof.Machine

/-! PROOFS. What changes OPEN (R171). An event changes it only by the launch of an operation; the `Settle` after it only
by the end of a guard exit, which either was in progress or is the operation just launched. -/

namespace Sys2Proof.Machine

/-! ### What OPEN and the operation in progress depend on -/

/-- A guard exit's RF-disable transaction is in progress (R282, R306). -/
structure Session.Exiting (x : Session) : Prop where
  active : x.phase ≠ .idle
  op : isGuardExit x.lastOp = true

/-- R306: the guard exits that attempt the RF-disable command, by their OPs. -/
theorem isGuardExit_iff (op : Byte) : isGuardExit op = true ↔ op = 0x31#8 ∨ op = 0x32#8 := by
  simp [isGuardExit, opOf]

/-- `y` is as Open as `x`, and has the same operation in progress or, like `x`, none. -/
structure Session.SameCourse (x y : Session) : Prop where
  isOpen : y.isOpen = x.isOpen
  lastOp : y.lastOp = x.lastOp
  idle : y.phase = .idle ↔ x.phase = .idle

theorem Session.SameCourse.refl (x : Session) : x.SameCourse x := ⟨rfl, rfl, .rfl⟩

theorem Session.SameCourse.trans {x y z : Session} (h : x.SameCourse y) (h' : y.SameCourse z) : x.SameCourse z :=
  ⟨h'.isOpen.trans h.isOpen, h'.lastOp.trans h.lastOp, h'.idle.trans h.idle⟩

theorem Session.SameCourse.exiting {x y : Session} (h : x.SameCourse y) (hy : y.Exiting) : x.Exiting :=
  ⟨fun hp => hy.active (h.idle.mpr hp), h.lastOp ▸ hy.op⟩

theorem handOff_sameCourse (e : Engine) : e.ses.SameCourse (handOff e).ses := by
  rcases handOff_cases e with h | ⟨q, -, -, -, -, h⟩ <;> rw [h] <;> exact ⟨rfl, rfl, .rfl⟩

theorem writePhaseEnd_sameCourse (e : Engine) : e.ses.SameCourse (writePhaseEnd e).ses := by
  rcases writePhaseEnd_cases e with ⟨-, h⟩ | ⟨hp, -, h⟩
  · exact h.symm ▸ .refl e.ses
  · rw [h]
    exact ⟨rfl, rfl, by simp [hp]⟩

theorem receiveOctet_sameCourse (b : Byte) (ferr : Bool) (e : Engine) :
    e.ses.SameCourse (receiveOctet b ferr e).ses := by
  unfold receiveOctet
  split_ifs <;> exact ⟨rfl, rfl, .rfl⟩

theorem countSent_sameCourse (e : Engine) : e.ses.SameCourse (countSent e).ses := by
  rcases countSent_cases e with ⟨-, -, h⟩ | ⟨-, h⟩ <;> rw [h] <;> exact ⟨rfl, rfl, .rfl⟩

theorem tickSession_sameCourse (x : Session) : x.SameCourse (tickSession x) := by
  obtain ⟨c, hc⟩ := tickSession_cnt x
  rw [hc]
  exact ⟨rfl, rfl, .rfl⟩

/-- No register but CTRL reaches OPEN, LAST_OP or PHASE (R38, R41). -/
theorem writeSessionReg_sameCourse (v : Word) (r : SessionReg) (x : Session) :
    x.SameCourse (writeSessionReg v r x) := by
  cases r with
  | cfg | tmo => cases ho : x.isOpen <;> simp only [writeSessionReg, ho] <;> exact ⟨ho.symm ▸ rfl, rfl, .rfl⟩
  | ctrl | stat | ie | resp | cksum | txf0 | txf1 | rxf0 | rxf1 | cin0 | cin1 | sdec | diag => exact ⟨rfl, rfl, .rfl⟩

/-! ### What `Settle` does to OPEN -/

@[simp] theorem closeAction_isOpen (e : Engine) : (closeAction e).ses.isOpen = false := by
  rcases closeAction_cases e with ⟨ho, h⟩ | ⟨-, h⟩ <;> rw [h]
  exact ho

@[simp] theorem closeAction_lastOp (e : Engine) : (closeAction e).ses.lastOp = e.ses.lastOp := by
  rcases closeAction_cases e with ⟨-, h⟩ | ⟨-, h⟩ <;> simp [h]

@[simp] theorem closeAction_phase (e : Engine) : (closeAction e).ses.phase = e.ses.phase := by
  rcases closeAction_cases e with ⟨-, h⟩ | ⟨-, h⟩ <;> simp [h]

/-- R285: the guard's end closes unconditionally. -/
@[simp] theorem guardFinish_isOpen (e : Engine) : (guardFinish e).ses.isOpen = false := closeAction_isOpen e

@[simp] theorem guardFinish_lastOp (e : Engine) : (guardFinish e).ses.lastOp = e.ses.lastOp := closeAction_lastOp e

/-- OPEN in `y` is as in `x`, or a guard exit in progress in `x` has closed the session. -/
def Session.KeepsOpenOrExits (x y : Session) : Prop := y.isOpen = x.isOpen ∨ (x.Exiting ∧ y.isOpen = false)

theorem Session.SameCourse.keepsOpenOrExits {x y z : Session} (h : x.SameCourse y) (h' : y.KeepsOpenOrExits z) :
    x.KeepsOpenOrExits z :=
  h'.imp (·.trans h.isOpen) fun ⟨hexit, hclosed⟩ => ⟨h.exiting hexit, hclosed⟩

/-- `End` closes only at a guard exit (R306). -/
theorem endOp_keepsOpenOrExits (c : ErrCode) (e : Engine) : e.ses.KeepsOpenOrExits (endOp c e).ses := by
  rcases endOp_cases c e with ⟨-, h⟩ | ⟨hp, hg, h⟩ <;> rw [h]
  · exact .inl rfl
  · exact .inr ⟨⟨hp, hg⟩, guardFinish_isOpen _⟩

theorem complete_keepsOpenOrExits (e : Engine) : e.ses.KeepsOpenOrExits (complete e).ses := by
  have hend (c : ErrCode) (x : Session) (hx : e.ses.SameCourse x) :
      e.ses.KeepsOpenOrExits (endOp c { e with ses := x }).ses := hx.keepsOpenOrExits (endOp_keepsOpenOrExits c _)
  rcases complete_cases e with ⟨-, h⟩ | ⟨-, h⟩ <;> rw [h] <;> exact hend _ _ ⟨rfl, rfl, .rfl⟩

theorem phaseOutcome_keepsOpenOrExits (e : Engine) : e.ses.KeepsOpenOrExits (phaseOutcome e).ses := by
  rcases phaseOutcome_cases e with ⟨-, -, h⟩ | ⟨-, -, h⟩ | ⟨-, -, -, h⟩ | ⟨-, -, h⟩ <;> rw [h]
  · exact complete_keepsOpenOrExits e
  · exact endOp_keepsOpenOrExits _ e
  · exact endOp_keepsOpenOrExits _ e
  · exact .inl rfl

/-- `Settle` never opens a session, and closes it only at the end of a guard exit (R188, R306). -/
theorem settle_keepsOpenOrExits (e : Engine) : e.ses.KeepsOpenOrExits (settle e).ses := by
  by_cases hp : e.ses.phase = .idle
  · exact .inl (by rw [settle_idle e hp])
  · rw [settle_busy e hp]
    exact ((handOff_sameCourse e).trans (writePhaseEnd_sameCourse _)).keepsOpenOrExits (phaseOutcome_keepsOpenOrExits _)

/-! ### What a command's body does to OPEN -/

/-- Work of the operation `op` that opens or closes the session only where R171 lets it, and leaves LAST_OP. -/
structure LawfulOpen (op : Byte) (e e' : Engine) : Prop where
  lastOp : e'.ses.lastOp = e.ses.lastOp
  opens : e.ses.isOpen = false → e'.ses.isOpen = true → op.toNat ∈ [0x01, 0x30]
  closes : e.ses.isOpen = true → e'.ses.isOpen = false → op.toNat ∈ [0x02, 0x31, 0x32, 0x33]

theorem LawfulOpen.of_isOpen_eq {op : Byte} {e e' : Engine} (hop : e'.ses.lastOp = e.ses.lastOp)
    (ho : e'.ses.isOpen = e.ses.isOpen) : LawfulOpen op e e' :=
  ⟨hop, fun h h' => absurd (h.symm.trans (ho.symm.trans h')) nofun,
    fun h h' => absurd (h.symm.trans (ho.symm.trans h')) nofun⟩

theorem LawfulOpen.of_closed {op : Byte} {e e' : Engine} (hop : e'.ses.lastOp = e.ses.lastOp)
    (ho : e'.ses.isOpen = false) (hcloses : op.toNat ∈ [0x02, 0x31, 0x32, 0x33]) : LawfulOpen op e e' :=
  ⟨hop, fun _ h => absurd (ho.symm.trans h) nofun, fun _ _ => hcloses⟩

theorem LawfulOpen.of_stays_open {op : Byte} {e e' : Engine} (hop : e'.ses.lastOp = e.ses.lastOp)
    (ho : e.ses.isOpen = true → e'.ses.isOpen = true) (hopens : op.toNat ∈ [0x01, 0x30]) : LawfulOpen op e e' :=
  ⟨hop, fun _ _ => hopens, fun h h' => absurd (h'.symm.trans (ho h)) nofun⟩

/-- `End` of an IDLE session writes neither OPEN nor LAST_OP (R306). -/
theorem LawfulOpen.endOp {op : Byte} {e e' : Engine} (h : LawfulOpen op e e') (c : ErrCode)
    (hp : e'.ses.phase = .idle) : LawfulOpen op e (endOp c e') := by
  rw [endOp_idle c e' hp]
  exact ⟨h.lastOp, h.opens, h.closes⟩

/-- A command's body, run as `Launch` runs it, on an IDLE session (R221, R35 a). -/
def LawfulBody (op : Byte) (body : Engine → Engine) : Prop :=
  ∀ e : Engine, e.ses.phase = .idle → LawfulOpen op e (body e)

theorem lawfulBody_endOp (op : Byte) (c : ErrCode) : LawfulBody op (endOp c) :=
  fun _ hp => (LawfulOpen.of_isOpen_eq rfl rfl).endOp c hp

theorem lawfulBody_startTxn (op cmd : Byte) (data : Data) : LawfulBody op (startTxn cmd data) :=
  fun _ _ => .of_isOpen_eq rfl rfl

theorem lawfulBody_wireOp (op : Byte) (n : WireName) (d : Data) (v : Bool) : LawfulBody op (wireOp n d v) := by
  intro e hp
  rcases wireOp_cases n d v e with ⟨-, h⟩ | ⟨-, -, h⟩ | ⟨c, -, -, ⟨-, h⟩ | ⟨-, h⟩⟩ <;> rw [h]
  · exact lawfulBody_endOp op _ e hp
  · exact lawfulBody_endOp op _ e hp
  · exact lawfulBody_endOp op _ e hp
  · exact lawfulBody_startTxn op c d e hp

theorem lawfulBody_sendBody (op cmd : Byte) (data : Data) : LawfulBody op (sendBody cmd data) := by
  intro e hp
  unfold sendBody
  split_ifs
  · exact lawfulBody_endOp op _ e hp
  · exact lawfulBody_startTxn op cmd data e hp

theorem lawfulBody_encodeBody (op cmd : Byte) (data : Data) : LawfulBody op (encodeBody cmd data) := by
  intro e hp
  apply LawfulOpen.endOp
  · exact .of_isOpen_eq rfl rfl
  · exact hp

theorem lawfulBody_decodeBody (op : Byte) : LawfulBody op decodeBody := by
  intro e hp
  apply LawfulOpen.endOp
  · exact .of_isOpen_eq rfl rfl
  · exact hp

/-- `OpenAction` leaves the operation and its phase, and an Open session Open (R172). -/
theorem openAction_course (e : Engine) :
    (openAction e).1.ses.lastOp = e.ses.lastOp ∧ (openAction e).1.ses.phase = e.ses.phase ∧
      (e.ses.isOpen = true → (openAction e).1.ses.isOpen = true) := by
  rcases openAction_cases e with ⟨-, h⟩ | ⟨-, ⟨-, h⟩ | ⟨q, -, ⟨-, h⟩ | ⟨-, -, h⟩ | ⟨-, -, -, h⟩ | ⟨-, -, -, h⟩⟩⟩ <;>
    simp [h, openFails]

theorem openAction_lawfulOpen {op : Byte} (e : Engine) (hop : op.toNat ∈ [0x01, 0x30]) :
    LawfulOpen op e (openAction e).1 :=
  have ⟨hlast, _, hopen⟩ := openAction_course e
  .of_stays_open hlast hopen hop

theorem lawfulBody_openBody {op : Byte} (hop : op.toNat ∈ [0x01, 0x30]) : LawfulBody op openBody := by
  intro e hp
  have ⟨_, hphase, _⟩ := openAction_course e
  exact (openAction_lawfulOpen e hop).endOp _ (hphase.trans hp)

theorem lawfulBody_genterBody {op : Byte} (hop : op.toNat ∈ [0x01, 0x30]) : LawfulBody op genterBody := by
  intro e hp
  have ⟨hlast, hphase, hopen⟩ := openAction_course e
  unfold genterBody
  dsimp only
  split_ifs
  · exact lawfulBody_endOp op _ e hp
  · apply LawfulOpen.endOp
    · exact .of_stays_open hlast hopen hop
    · exact hphase.trans hp
  · exact (openAction_lawfulOpen e hop).endOp _ (hphase.trans hp)

theorem lawfulBody_closeBody {op : Byte} (hop : op.toNat ∈ [0x02, 0x31, 0x32, 0x33]) : LawfulBody op closeBody :=
  fun e hp => (LawfulOpen.of_closed (closeAction_lastOp e) (closeAction_isOpen e) hop).endOp _
    ((closeAction_phase e).trans hp)

theorem lawfulBody_guardExitBody {op : Byte} (hop : op.toNat ∈ [0x02, 0x31, 0x32, 0x33]) :
    LawfulBody op guardExitBody := by
  intro e hp
  have hskip (c : ErrCode) : LawfulOpen op e (guardSkips c e) :=
    .of_closed (guardFinish_lastOp _) (guardFinish_isOpen _) hop
  unfold guardExitBody
  split_ifs
  · exact lawfulBody_endOp op _ e hp
  · rcases guardDisable_cases e with ⟨-, h⟩ | ⟨c, -, ⟨-, h⟩ | ⟨-, h⟩⟩ <;> rw [h]
    · exact hskip _
    · exact hskip _
    · exact lawfulBody_startTxn op c _ e hp

theorem lawfulBody_gexitfBody {op : Byte} (hop : op.toNat ∈ [0x02, 0x31, 0x32, 0x33]) : LawfulBody op gexitfBody := by
  intro e hp
  unfold gexitfBody
  split_ifs
  · exact lawfulBody_endOp op _ e hp
  · exact .of_closed (guardFinish_lastOp _) (guardFinish_isOpen _) hop

/-- R171: of the operations, OPEN and GENTER open a session; CLOSE and the guard exits close it. -/
theorem exec_lawfulBody (i : Instr) :
    ∃ body, LawfulBody (opOf i) body ∧ ∀ s, exec i s = .next (s.launch (opOf i) body) := by
  cases i with
  | openSession => exact ⟨_, lawfulBody_openBody (by decide), fun _ => rfl⟩
  | closeSession => exact ⟨_, lawfulBody_closeBody (by decide), fun _ => rfl⟩
  | send cmd data => exact ⟨_, lawfulBody_sendBody _ cmd data, fun _ => rfl⟩
  | encode cmd data => exact ⟨_, lawfulBody_encodeBody _ cmd data, fun _ => rfl⟩
  | decode => exact ⟨_, lawfulBody_decodeBody _, fun _ => rfl⟩
  | genter => exact ⟨_, lawfulBody_genterBody (by decide), fun _ => rfl⟩
  | gexitn | gexite => exact ⟨_, lawfulBody_guardExitBody (by decide), fun _ => rfl⟩
  | gexitf => exact ⟨_, lawfulBody_gexitfBody (by decide), fun _ => rfl⟩
  | rsterr => exact ⟨_, fun e => lawfulBody_wireOp _ .resetError e.params.resetErrorData true e, fun _ => rfl⟩
  | wrsp | rdsp | wrlu | rdlu | wrli | rdli | wrlp | rdlp | wrmode | rdmode | rfon | rfoff | rdoper | rdstat | rdapwr
  | rdavol | rdacur | rdafrq => exact ⟨_, lawfulBody_wireOp _ _ _ _, fun _ => rfl⟩

/-! ### What an event does to OPEN -/

/-- The event is a write to session `k`'s CTRL register of a word whose OP is one of `ops` (R37, R110). -/
def Input.Commands (i : Input) (k : Nat) (ops : List Nat) : Prop :=
  ∃ a w, i = .host (.write a w) ∧ a.toNat / 4 = 16 * k ∧ w.toNat % 256 ∈ ops

/-- What an event may make of session `k`'s OPEN before its `Settle`, and of the guard exit the `Settle` may end. -/
structure OpenEffect (i : Input) (k : Nat) (x y : Session) : Prop where
  opens : x.isOpen = false → y.isOpen = true → i.Commands k [0x01, 0x30]
  closes : x.isOpen = true → y.isOpen = false → i.Commands k [0x02, 0x31, 0x32, 0x33]
  exits : y.Exiting → x.Exiting ∨ i.Commands k [0x31, 0x32]

theorem Session.SameCourse.openEffect {x y : Session} (h : x.SameCourse y) (i : Input) (k : Nat) :
    OpenEffect i k x y where
  opens hx hy := absurd (hx.symm.trans (h.isOpen.symm.trans hy)) nofun
  closes hx hy := absurd (hx.symm.trans (h.isOpen.symm.trans hy)) nofun
  exits hy := .inl (h.exiting hy)

/-- The record of any session after a procedure of session `j`: the procedure's, or the one it had. -/
theorem State.onSession_record {j k : Nat} {f : Engine → Engine} {s : State} {x : Session} {R : Session → Prop}
    (hx : s.sessions[k]? = some x) (hself : j = k → R (f (s.engine k x)).ses) (hother : R x) :
    ∃ y, (s.onSession j f).sessions[k]? = some y ∧ R y := by
  rcases eq_or_ne j k with rfl | hne
  · exact ⟨_, State.onSession_self j f s x hx, hself rfl⟩
  · exact ⟨x, (State.onSession_other j k f s hne.symm).trans hx, hother⟩

/-- The launch of an operation, refused or accepted (R221, R313). -/
theorem launchOn_openEffect {op : Byte} {body : Engine → Engine} (hbody : LawfulBody op body) {e : Engine}
    (hidle : e.ses.busy = false → e.ses.phase = .idle) {i : Input} {k : Nat}
    (hi : ∀ ops, op.toNat ∈ ops → i.Commands k ops) : OpenEffect i k e.ses (launchOn op body e).ses := by
  cases hb : e.ses.busy with
  | true =>
    rw [launchOn, if_pos hb]
    have hcourse : e.ses.SameCourse { e.ses with overrun := true } := ⟨rfl, rfl, .rfl⟩
    exact hcourse.openEffect i k
  | false =>
    rw [launchOn, if_neg (by simp [hb])]
    have hwork := hbody { e with ses := { e.ses with done := false, err := .noError, lastOp := op } } (hidle hb)
    refine ⟨fun hx hy => hi _ (hwork.opens hx hy), fun hx hy => hi _ (hwork.closes hx hy), fun hy => .inr (hi _ ?_)⟩
    have hop : isGuardExit op = true := (congrArg isGuardExit hwork.lastOp).symm.trans hy.op
    rcases (isGuardExit_iff op).mp hop with rfl | rfl <;> decide

/-- R36: a CTRL register stands at the first word of its session's block. -/
theorem ctrl_address {n k : Nat} {a : Addr} (h : selectReg n a = .session k .ctrl) : a.toNat / 4 = 16 * k := by
  have hfirst (j : Nat) (hj : sessionReg? j = some .ctrl) : j = 0 := by
    unfold sessionReg? at hj
    split at hj <;> simp_all
  simp only [selectReg, addr_block, addr_offset] at h
  split_ifs at h
  split at h
  · next r hr =>
    obtain ⟨rfl, rfl⟩ := RegSel.session.inj h
    have := hfirst _ hr
    omega
  · cases h
  · split at h <;> cases h

/-- The launch that a CTRL write makes, seen from any session. -/
theorem launch_openEffect {s : State} (hs : s.Coherent) {j k : Nat} {x : Session} (hx : s.sessions[k]? = some x)
    {a : Addr} {w : Word} (hsel : selectReg s.sessions.length a = .session j .ctrl) {op : Byte}
    {body : Engine → Engine} (hbody : LawfulBody op body) (hop : op = opField w) :
    ∃ y, (State.launch op body { s with sel := j }).sessions[k]? = some y ∧
      OpenEffect (.host (.write a w)) k x y := by
  refine State.onSession_record (s := { s with sel := j }) hx ?_ ((Session.SameCourse.refl x).openEffect _ k)
  rintro rfl
  refine launchOn_openEffect (e := State.engine { s with sel := j } j x) hbody (hs.session_ok j x hx).idle
    fun ops hmem => ⟨a, w, rfl, ctrl_address hsel, ?_⟩
  rwa [← toNat_opField, ← hop]

/-- Before the `Settle` of its step, an event changes OPEN only by the launch of an operation (R171). -/
theorem EventEffect.openEffect {i : Input} {s u : State} (h : EventEffect s i u) (hs : s.Coherent) {k : Nat}
    {x : Session} (hx : s.sessions[k]? = some x) : ∃ y, u.sessions[k]? = some y ∧ OpenEffect i k x y := by
  have unchanged (hu : u.sessions = s.sessions) : ∃ y, u.sessions[k]? = some y ∧ OpenEffect i k x y :=
    ⟨x, hu ▸ hx, (Session.SameCourse.refl x).openEffect i k⟩
  have ticked : ∃ y, (tickEvent s).sessions[k]? = some y ∧ OpenEffect i k x y :=
    ⟨tickSession x, by simp [tickEvent, hx], (tickSession_sameCourse x).openEffect i k⟩
  have worked (j : Nat) (f : Engine → Engine) (t : State) (ht : t.sessions = s.sessions)
      (hf : ∀ e : Engine, e.ses.SameCourse (f e).ses) :
      ∃ y, (t.onSession j f).sessions[k]? = some y ∧ OpenEffect i k x y :=
    State.onSession_record (ht ▸ hx) (fun _ => (hf (t.engine k x)).openEffect i k)
      ((Session.SameCourse.refl x).openEffect i k)
  cases h with
  | command a w j i' _ hsel hdec hexec =>
    obtain ⟨body, hbody, hlaunch⟩ := exec_lawfulBody i'
    obtain rfl := Host.Outcome.next.inj ((hlaunch _).symm.trans hexec)
    exact launch_openEffect hs hx hsel hbody (readFrom_of_decode hdec).op
  | reserved a w j op hsel hdec =>
    refine launch_openEffect hs hx hsel (lawfulBody_endOp op .illegalOp) ?_
    rcases decode_cases w with ⟨herr, -⟩ | ⟨i', hok, -⟩
    · cases hdec.symm.trans herr
      rfl
    · cases hdec.symm.trans hok
  | writeSession _ v j r =>
    rw [writeSession_onSession]
    exact worked j _ s rfl fun e => writeSessionReg_sameCourse v r e.ses
  | writeGlobal _ _ r => exact unchanged (by cases r <;> rfl)
  | writeNothing | read | rxDropped | txDoneFree | present => exact unchanged rfl
  | rxDelivered _ b ferr => exact worked _ _ s rfl (receiveOctet_sameCourse b ferr)
  | txDoneHeld p => exact worked _ _ (s.txIdle p) rfl countSent_sameCourse
  | tick | clkTick => exact ticked

/-! ### What a step does to OPEN -/

theorem Input.Commands.mono {i : Input} {k : Nat} {ops ops' : List Nat} (h : i.Commands k ops) (hsub : ops ⊆ ops') :
    i.Commands k ops' :=
  have ⟨a, w, hi, ha, hw⟩ := h
  ⟨a, w, hi, ha, hsub hw⟩

/-- Reset leaves every session Closed (R351). -/
theorem resetEvent_isOpen {during : Option BusAccess} {s : State} {k : Nat} {y : Session}
    (h : (resetEvent during s).sessions[k]? = some y) : y.isOpen = false := by
  have hreset : (resetEvent during s).sessions = (List.range s.sessions.length).map (Session.reset s.ports.length) := by
    rcases during with - | ⟨a, v⟩ | ⟨a⟩ <;> rfl
  rw [hreset, List.getElem?_map] at h
  obtain ⟨j, -, rfl⟩ := Option.map_eq_some_iff.mp h
  rfl

/-- Settles O57: an event's effect changes OPEN only by a launch, its `Settle` only by the end of a guard exit. -/
theorem onlyOpenAndCloseChangeOpen : Obligations.OnlyOpenAndCloseChangeOpen := by
  intro s t k x y i rest hinv hin hstep hx hy
  have hinv' : State.Inv { s with inputs := rest } := hinv.of_records_eq rfl rfl
  rcases stepEvent_cases i _ t ((step_cons s i rest hin).symm.trans hstep) with
    ⟨u, hu, rfl⟩ | ⟨during, rfl, rfl⟩ | ⟨-, -, rfl⟩
  · obtain ⟨z, hz, heffect⟩ := hu.openEffect hinv'.coherent hx
    obtain ⟨e, rfl, he⟩ := settleAll_session u k z hz
    obtain rfl := Option.some.inj (he.symm.trans hy)
    have hsettle := settle_keepsOpenOrExits e
    refine ⟨fun hclosed hopen => ?_, fun hopen hclosed => .inr ?_⟩
    · rcases hsettle with hsame | ⟨-, hexit⟩
      · exact heffect.opens hclosed (hsame.symm.trans hopen)
      · exact absurd (hexit.symm.trans hopen) nofun
    · rcases hsettle with hsame | ⟨hexiting, -⟩
      · exact .inr (heffect.closes hopen (hsame.symm.trans hclosed))
      · rcases heffect.exits hexiting with ⟨hp, hop⟩ | hcommand
        · exact .inl ⟨(hinv.session_ok k x hx).busy_iff.mpr hp, (isGuardExit_iff x.lastOp).mp hop⟩
        · exact .inr (hcommand.mono (by decide))
  · have hclosed := resetEvent_isOpen hy
    exact ⟨fun _ hopen => absurd (hclosed.symm.trans hopen) nofun, fun _ _ => .inl ⟨during, rfl⟩⟩
  · obtain rfl := Option.some.inj (hx.symm.trans hy)
    exact ⟨fun h h' => absurd (h.symm.trans h') nofun, fun h h' => absurd (h.symm.trans h') nofun⟩

end Sys2Proof.Machine

/-! PROOFS. OPEN and CLOSE (R172 to R174): what each leaves on a ready session, and the port it acquires or releases. -/

namespace Sys2Proof.Machine

/-! ### Commands that end in their launching step -/

theorem exec_openSession (s : State) : exec .openSession s = .next (s.launch (opOf .openSession) openBody) := rfl

theorem exec_closeSession (s : State) : exec .closeSession s = .next (s.launch (opOf .closeSession) closeBody) := rfl

theorem exec_genter (s : State) : exec .genter s = .next (s.launch (opOf .genter) genterBody) := rfl

/-- As `launch_of_endOp`, for a body that also replaces port `p`'s record by `q`. -/
theorem launch_of_endOp_port (op : Byte) {body : Engine → Engine} {c : ErrCode} {s : State} {x y : Session} {p : Nat}
    {q : Port} (h : Ready s x)
    (hbody : body (s.engine s.sel { x with done := false, err := .noError, lastOp := op }) =
      endOp c ((s.setPort p q).engine s.sel y))
    (hbusy : y.busy = x.busy) (hphase : y.phase = x.phase) :
    s.launch op body = (s.setSession s.sel { y with done := true, err := c }).setPort p q := by
  have ⟨_, hxbusy, hxphase⟩ := h
  have hy : (finish c ((s.setPort p q).engine s.sel y)).ses = { y with done := true, err := c } := by
    simp [hbusy, hxbusy, hphase, hxphase]
  rw [State.launch_ready op body s x h, hbody, endOp_idle c _ (hphase.trans hxphase), ← hy]
  rfl

/-! ### Opening -/

/-- R172: on an Open session `OpenAction` only clears CONN_CAUSE. -/
theorem openAction_of_open {e : Engine} (ho : e.ses.isOpen = true) :
    openAction e = ({ e with ses := { e.ses with connCause := .noCause } }, .noError) := by
  rcases openAction_cases e with ⟨-, h⟩ | ⟨hclosed, -⟩
  · exact h
  · exact absurd (ho.symm.trans hclosed) nofun

/-- R173: on a Closed session whose port cannot be acquired `OpenAction` only records the first cause. -/
theorem openAction_of_cause {e : Engine} {c : ConnCause} (ho : e.ses.isOpen = false)
    (hc : connectionCause e.ports e.ses.portSel.toNat = some c) : openAction e = openFails c e := by
  have hcause (d : ConnCause) (hd : connectionCause e.ports e.ses.portSel.toNat = some d)
      (h : openAction e = openFails d e) : openAction e = openFails c e :=
    Option.some.inj (hd.symm.trans hc) ▸ h
  rcases openAction_cases e with ⟨hopen, -⟩ | ⟨-, ⟨hq, h⟩ | ⟨q, hq, hcases⟩⟩
  · exact absurd (ho.symm.trans hopen) nofun
  · exact hcause _ (by simp [connectionCause, hq]) h
  · rcases hcases with ⟨hpr, h⟩ | ⟨hpr, how, h⟩ | ⟨hpr, how, hen, h⟩ | ⟨hpr, how, hen, -⟩
    · exact hcause _ (by simp [connectionCause, hq, hpr]) h
    · exact hcause _ (by simp [connectionCause, hq, hpr, how]) h
    · exact hcause _ (by simp [connectionCause, hq, hpr, how, hen]) h
    · simp [connectionCause, hq, hpr, how, hen] at hc

/-- R172: on a Closed session `OpenAction` acquires a present, free, enabled port. -/
theorem openAction_of_free {e : Engine} {q : Port} (ho : e.ses.isOpen = false)
    (hq : e.ports[e.ses.portSel.toNat]? = some q) (hpr : q.present = true) (how : q.owned = false)
    (hen : q.enable = true) :
    openAction e =
      ({ e with
          ports := e.ports.set e.ses.portSel.toNat { q with owned := true, owner := BitVec.ofNat 3 e.idx }
          ses := { e.ses with isOpen := true, connCause := .noCause } }, .noError) := by
  simp [openAction, ho, hq, hpr, how, hen, Engine.modPort, modify_eq_set _ _ _ _ hq]

/-! OPEN's body by the same three cases, and GENTER's failing open (R281). -/

theorem openBody_of_open {e : Engine} (ho : e.ses.isOpen = true) :
    openBody e = endOp .noError { e with ses := { e.ses with connCause := .noCause } } := by
  rw [openBody, openAction_of_open ho]

theorem openBody_of_cause {e : Engine} {c : ConnCause} (ho : e.ses.isOpen = false)
    (hc : connectionCause e.ports e.ses.portSel.toNat = some c) :
    openBody e = endOp .connection { e with ses := { e.ses with connCause := c } } := by
  rw [openBody, openAction_of_cause ho hc, openFails]

theorem openBody_of_free {e : Engine} {q : Port} (ho : e.ses.isOpen = false)
    (hq : e.ports[e.ses.portSel.toNat]? = some q) (hpr : q.present = true) (how : q.owned = false)
    (hen : q.enable = true) :
    openBody e =
      endOp .noError
        { e with
          ports := e.ports.set e.ses.portSel.toNat { q with owned := true, owner := BitVec.ofNat 3 e.idx }
          ses := { e.ses with isOpen := true, connCause := .noCause } } := by
  rw [openBody, openAction_of_free ho hq hpr how hen]

theorem genterBody_of_cause {e : Engine} {c : ConnCause} (hg : e.ses.guardActive = false) (ho : e.ses.isOpen = false)
    (hc : connectionCause e.ports e.ses.portSel.toNat = some c) :
    genterBody e = endOp .connection { e with ses := { e.ses with connCause := c } } := by
  simp [genterBody, hg, openAction_of_cause ho hc, openFails]

/-- Settles O13: both operations end with the failed open's record. -/
theorem failedOpenReportsTheFirstCause : Obligations.FailedOpenReportsTheFirstCause := by
  intro s x c hready hclosed hcause
  refine ⟨?opens, fun hguard => ?genter⟩
  case opens =>
    rw [exec_openSession, launch_of_endOp _ hready (openBody_of_cause hclosed hcause) rfl rfl]
    rfl
  case genter =>
    rw [exec_genter, launch_of_endOp _ hready (genterBody_of_cause hguard hclosed hcause) rfl rfl]
    rfl

/-- Settles O11: the acquired port is written with the record. -/
theorem openAcquiresThePort : Obligations.OpenAcquiresThePort := by
  intro s x q hready hclosed hq hpr how hen
  rw [exec_openSession, launch_of_endOp_port _ hready (openBody_of_free hclosed hq hpr how hen) rfl rfl]
  rfl

/-- Settles O12: on an Open session the record alone changes. -/
theorem openWhileOpenIsANoOp : Obligations.OpenWhileOpenIsANoOp := by
  intro s x hready hopen
  rw [exec_openSession, launch_of_endOp _ hready (openBody_of_open hopen) rfl rfl]
  rfl

/-! ### Closing -/

/-- R174: `CloseAction` does nothing on a Closed session. -/
theorem closeAction_of_closed {e : Engine} (ho : e.ses.isOpen = false) : closeAction e = e := by
  rcases closeAction_cases e with ⟨-, h⟩ | ⟨hopen, -⟩
  · exact h
  · exact absurd (ho.symm.trans hopen) nofun

/-- R174: `CloseAction` releases the port that an Open session holds. -/
theorem closeAction_of_open {e : Engine} {q : Port} (ho : e.ses.isOpen = true)
    (hq : e.ports[e.ses.portSel.toNat]? = some q) :
    closeAction e =
      { e with
        ports := e.ports.set e.ses.portSel.toNat { q with owned := false, owner := 0#3 }
        ses := { e.ses with isOpen := false } } := by
  rcases closeAction_cases e with ⟨hclosed, -⟩ | ⟨-, h⟩
  · exact absurd (ho.symm.trans hclosed) nofun
  · rw [h, modify_eq_set _ _ _ _ hq]

theorem closeBody_of_closed {e : Engine} (ho : e.ses.isOpen = false) : closeBody e = endOp .noError e := by
  rw [closeBody, closeAction_of_closed ho]

theorem closeBody_of_open {e : Engine} {q : Port} (ho : e.ses.isOpen = true)
    (hq : e.ports[e.ses.portSel.toNat]? = some q) :
    closeBody e =
      endOp .noError
        { e with
          ports := e.ports.set e.ses.portSel.toNat { q with owned := false, owner := 0#3 }
          ses := { e.ses with isOpen := false } } := by
  rw [closeBody, closeAction_of_open ho hq]

/-- Settles O14: the two forms of `CloseAction`, each completed with NONE. -/
theorem closeReleasesThePort : Obligations.CloseReleasesThePort := by
  intro s x hready
  refine ⟨fun q hopen hq => ?isOpen, fun hclosed => ?closed⟩
  case isOpen =>
    rw [exec_closeSession, launch_of_endOp_port _ hready (closeBody_of_open hopen hq) rfl rfl]
    rfl
  case closed =>
    rw [exec_closeSession, launch_of_endOp _ hready (closeBody_of_closed hclosed) rfl rfl]
    rfl

end Sys2Proof.Machine

/-! PROOFS. The events of the wire and the timebase (R178 to R184), and `Settle` (R188): what each changes and that it
changes nothing else. -/

namespace Sys2Proof.Machine

/-! ### Port events -/

/-- R180, R181: what a character makes of its holder's record. -/
theorem receiveOctet_eq (b : Byte) (ferr : Bool) (e : Engine) :
    receiveOctet b ferr e = { e with ses :=
      if ferr = true then { e.ses with rxFerr := true }
      else if e.ses.phase ≠ .idle ∧ e.ses.rxcnt.toNat < 5 then
        { e.ses with rxf := e.ses.rxf.put e.ses.rxcnt.toNat b, rxcnt := e.ses.rxcnt + 1#3 }
      else { e.ses with rxDrop := true } } := by
  unfold receiveOctet
  split_ifs <;> rfl

/-- Settles O36: the holder's engine writes its record alone. -/
theorem receivedCharacterGoesToTheHolder : Obligations.ReceivedCharacterGoesToTheHolder := by
  intro s p b ferr q hq
  refine ⟨fun hfree => by simp [rxCharEvent, hq, hfree], fun x hheld hx => ?_⟩
  have hevent : rxCharEvent p b ferr s = .next (s.onSession q.owner.toNat (receiveOctet b ferr)) := by
    simp [rxCharEvent, hq, hheld]
  rw [hevent, State.onSession_some _ _ _ _ hx, receiveOctet_eq]
  rfl

/-- R182: the port's record alone changes where the transmitter becomes idle. -/
theorem State.txIdle_eq_setPort {s : State} {p : Nat} {q : Port} (hq : s.ports[p]? = some q) :
    s.txIdle p = s.setPort p { q with txBusy := false } := by
  rw [State.txIdle, modify_eq_set _ _ _ _ hq, State.setPort]

/-- R182: what a transmit completion makes of its holder's record. -/
theorem countSent_eq (e : Engine) :
    countSent e = { e with ses :=
      if e.ses.phase = .tx ∧ e.ses.txSent.toNat < e.ses.txLoaded.toNat then { e.ses with txSent := e.ses.txSent + 1#3 }
      else e.ses } := by
  rcases countSent_cases e with ⟨hp, hlt, h⟩ | ⟨hnot, h⟩
  · rw [h, if_pos ⟨hp, hlt⟩]
  · rw [h, if_neg fun hc => hnot hc.1 hc.2]

/-- Settles O37: the port's record, then the holder's. -/
theorem transmitCompletionCountsOwnOctets : Obligations.TransmitCompletionCountsOwnOctets := by
  intro s p q hq hbusy
  rw [← State.txIdle_eq_setPort hq]
  refine ⟨fun hfree => by simp [txDoneEvent, hq, hbusy, hfree], fun x hheld hx => ?_⟩
  have hevent : txDoneEvent p s = .next ((s.txIdle p).onSession q.owner.toNat countSent) := by
    simp [txDoneEvent, hq, hbusy, hheld]
  rw [hevent, State.onSession_some _ _ (s.txIdle p) x hx, countSent_eq]
  rfl

/-! ### Presence -/

/-- `Settle` of settled sessions changes nothing (R188). -/
theorem settleUpTo_eq_self {s : State} (h : ∀ (k : Nat) (x : Session), s.sessions[k]? = some x → SettledOk s.ports x)
    (n : Nat) : settleUpTo n s = s := by
  induction n with
  | zero => rfl
  | succ n ih =>
    rw [settleUpTo_succ, ih]
    cases hx : s.sessions[n]? with
    | none => exact State.onSession_none n settle s hx
    | some x => exact State.Rests.onSession_settle ⟨hx, h n x hx⟩

/-- PRESENT of a port is nothing that `Settle` looks at (R178, R188). -/
theorem SettledOk.setPresent {ports : List Port} {x : Session} (h : SettledOk ports x) {p : Nat} {q : Port}
    (hq : ports[p]? = some q) (v : Bool) : SettledOk (ports.set p { q with present := v }) x :=
  { h with
    tx_busy := fun hp => by
      obtain ⟨r, hr, hbusy⟩ := h.tx_busy hp
      have hlt : p < ports.length := (List.getElem?_eq_some_iff.mp hq).1
      rcases eq_or_ne p x.portSel.toNat with rfl | hne
      · obtain rfl := Option.some.inj (hq.symm.trans hr)
        exact ⟨_, List.getElem?_set_self hlt, hbusy⟩
      · exact ⟨r, (List.getElem?_set_ne hne).trans hr, hbusy⟩ }

/-- Settles O39: after the port's write every session is still settled. -/
theorem presenceChangesNothingElse : Obligations.PresenceChangesNothingElse := by
  intro s p v q rest hinv hin hq
  obtain ⟨u, hu⟩ : ∃ u, u = ({ s with inputs := rest } : State).setPort p { q with present := v } := ⟨_, rfl⟩
  have hevent : presentEvent p v { s with inputs := rest } = .next u := by
    simp [presentEvent, hq, hu, State.setPort, modify_eq_set _ _ _ _ hq]
  have hsettled (k : Nat) (x : Session) (hx : u.sessions[k]? = some x) : SettledOk u.ports x := by
    subst hu
    exact (hinv.settled_ok k x hx).setPresent hq v
  calc step s = thenSettle (presentEvent p v { s with inputs := rest }) := step_cons s _ rest hin
    _ = .next (settleAll u) := congrArg thenSettle hevent
    _ = .next u := congrArg Host.Outcome.next (settleUpTo_eq_self hsettled _)
    _ = _ := congrArg Host.Outcome.next hu

/-! ### The tick -/

/-- R184: CNT saturates at 0xFFFF. -/
theorem tickSession_busy {x : Session} (hp : x.phase ≠ .idle) :
    tickSession x = { x with cnt := BitVec.ofNat 16 (min (x.cnt.toNat + 1) 0xFFFF) } := by
  have hcnt : (if x.cnt = 0xFFFF#16 then 0xFFFF#16 else x.cnt + 1#16) =
      BitVec.ofNat 16 (min (x.cnt.toNat + 1) 0xFFFF) := by
    split_ifs with h
    · simp [h]
    · have hlt : x.cnt.toNat + 1 ≤ 0xFFFF := by bv_omega
      rw [Nat.min_eq_left hlt]
      bv_omega
  rw [tickSession, if_neg hp, hcnt]

theorem tickEvent_session {s : State} {k : Nat} {x : Session} (hx : s.sessions[k]? = some x) :
    (tickEvent s).sessions[k]? = some (tickSession x) := by
  simp [tickEvent, hx]

/-- Settles O38: the two cases of PHASE. -/
theorem tickCountsBusySessions : Obligations.TickCountsBusySessions := by
  intro s
  refine ⟨fun k x hx => ?_, rfl⟩
  rw [tickEvent_session hx]
  exact ⟨fun hp => by rw [tickSession, if_pos hp], fun hp => by rw [tickSession_busy hp]⟩

/-! ### Settle -/

/-- A second hand-off finds the transmitter busy with the octet that the first loaded (R183). -/
theorem handOff_idempotent (e : Engine) : handOff (handOff e) = handOff e := by
  rcases handOff_cases e with h | ⟨q, hq, -, -, -, h⟩
  · rw [h, h]
  · have hlt : e.ses.portSel.toNat < e.ports.length := (List.getElem?_eq_some_iff.mp hq).1
    rw [h]
    exact handOff_waits _ _ (List.getElem?_set_self hlt) fun hload => absurd hload.2 nofun

/-- After the hand-off and the end of the write phase neither has more to do (R183, R186). -/
theorem handOff_writePhaseEnd_done (e : Engine) :
    handOff (writePhaseEnd (handOff e)) = writePhaseEnd (handOff e) ∧
      writePhaseEnd (writePhaseEnd (handOff e)) = writePhaseEnd (handOff e) := by
  rcases writePhaseEnd_cases (handOff e) with ⟨-, h⟩ | ⟨-, -, h⟩
  · rw [h, handOff_idempotent, h]
    exact ⟨rfl, rfl⟩
  · rw [h]
    exact ⟨handOff_not_tx _ nofun, if_neg fun htx => absurd htx.1 nofun⟩

/-- A phase ends, the session then IDLE, or nothing changes (R185, R188). -/
theorem phaseOutcome_idle_or_self (e : Engine) : (phaseOutcome e).ses.phase = .idle ∨ phaseOutcome e = e := by
  rcases phaseOutcome_cases e with ⟨-, -, h⟩ | ⟨-, -, h⟩ | ⟨-, -, -, h⟩ | ⟨-, -, h⟩
  · exact .inl (h ▸ complete_phase e)
  · exact .inl (h ▸ endOp_phase _ e)
  · exact .inl (h ▸ endOp_phase _ e)
  · exact .inr h

/-- Settles O34: `Settle` leaves an IDLE session, or one whose three parts have nothing more to do. -/
theorem settleIsIdempotent : Obligations.SettleIsIdempotent := by
  intro e
  by_cases hidle : (settle e).ses.phase = .idle
  · exact settle_idle _ hidle
  · by_cases hp : e.ses.phase = .idle
    · rw [settle_idle e hp, settle_idle e hp]
    · have hsettle := settle_busy e hp
      have hsame := (phaseOutcome_idle_or_self (writePhaseEnd (handOff e))).resolve_left (hsettle ▸ hidle)
      obtain ⟨hload, hwrite⟩ := handOff_writePhaseEnd_done e
      rw [settle_busy _ hidle, hsettle, hsame, hload, hwrite, hsame]

end Sys2Proof.Machine

/-! PROOFS. The tick that times a phase out (R185, R187): at its turn the session is as the event left it, since the
other sessions' `Settle` reaches neither its record nor its port; and a port released in its turn is left so. -/

namespace Sys2Proof.Machine

/-! ### The ports `Settle` may write -/

/-- Work of one engine that writes no port but the one PORT_SEL names, and leaves PORT_SEL. -/
structure Engine.OnOwnPort (e e' : Engine) : Prop where
  portSel : e'.ses.portSel = e.ses.portSel
  others : ∀ p, p ≠ e.ses.portSel.toNat → e'.ports[p]? = e.ports[p]?

theorem Engine.OnOwnPort.of_ports_eq {e e' : Engine} (hsel : e'.ses.portSel = e.ses.portSel)
    (hports : e'.ports = e.ports) : e.OnOwnPort e' := ⟨hsel, fun _ _ => by rw [hports]⟩

theorem Engine.OnOwnPort.trans {e e' e'' : Engine} (h : e.OnOwnPort e') (h' : e'.OnOwnPort e'') : e.OnOwnPort e'' :=
  ⟨h'.portSel.trans h.portSel, fun p hp => (h'.others p (h.portSel ▸ hp)).trans (h.others p hp)⟩

theorem closeAction_onOwnPort (e : Engine) : e.OnOwnPort (closeAction e) := by
  rcases closeAction_cases e with ⟨-, h⟩ | ⟨-, h⟩ <;> rw [h]
  · exact .of_ports_eq rfl rfl
  · exact ⟨rfl, fun p hp => List.getElem?_modify_ne _ _ hp.symm⟩

theorem guardFinish_onOwnPort (e : Engine) : e.OnOwnPort (guardFinish e) :=
  have hclose := closeAction_onOwnPort e
  ⟨hclose.portSel, hclose.others⟩

theorem endOp_onOwnPort (c : ErrCode) (e : Engine) : e.OnOwnPort (endOp c e) := by
  rcases endOp_cases c e with ⟨-, h⟩ | ⟨-, -, h⟩ <;> rw [h]
  · exact .of_ports_eq rfl rfl
  · have hfinish := guardFinish_onOwnPort { e with ses := { e.ses with phase := .idle, busy := false, gdis := some c } }
    exact ⟨hfinish.portSel, hfinish.others⟩

theorem complete_onOwnPort (e : Engine) : e.OnOwnPort (complete e) := by
  have hend (c : ErrCode) (y : Session) (hsel : y.portSel = e.ses.portSel) :
      e.OnOwnPort (endOp c { e with ses := y }) :=
    Engine.OnOwnPort.trans (e' := { e with ses := y }) (.of_ports_eq hsel rfl) (endOp_onOwnPort c _)
  rcases complete_cases e with ⟨-, h⟩ | ⟨-, h⟩ <;> rw [h] <;> exact hend _ _ rfl

theorem handOff_onOwnPort (e : Engine) : e.OnOwnPort (handOff e) := by
  rcases handOff_cases e with h | ⟨q, -, -, -, -, h⟩ <;> rw [h]
  · exact .of_ports_eq rfl rfl
  · exact ⟨rfl, fun p hp => List.getElem?_set_ne hp.symm⟩

theorem writePhaseEnd_onOwnPort (e : Engine) : e.OnOwnPort (writePhaseEnd e) := by
  rcases writePhaseEnd_cases e with ⟨-, h⟩ | ⟨-, -, h⟩ <;> rw [h] <;> exact .of_ports_eq rfl rfl

theorem phaseOutcome_onOwnPort (e : Engine) : e.OnOwnPort (phaseOutcome e) := by
  rcases phaseOutcome_cases e with ⟨-, -, h⟩ | ⟨-, -, h⟩ | ⟨-, -, -, h⟩ | ⟨-, -, h⟩ <;> rw [h]
  · exact complete_onOwnPort e
  · exact endOp_onOwnPort _ e
  · exact endOp_onOwnPort _ e
  · exact .of_ports_eq rfl rfl

theorem settle_onOwnPort (e : Engine) : e.OnOwnPort (settle e) := by
  by_cases hp : e.ses.phase = .idle
  · exact .of_ports_eq (by rw [settle_idle e hp]) (by rw [settle_idle e hp])
  · rw [settle_busy e hp]
    exact ((handOff_onOwnPort e).trans (writePhaseEnd_onOwnPort _)).trans (phaseOutcome_onOwnPort _)

/-- A busy session holds the port it selects, so its `Settle` leaves a port that it does not hold (R35, R105). -/
theorem settle_port_of_not_held {e : Engine} (he : e.Sound) {p : Nat} {q : Port} (hq : e.ports[p]? = some q)
    (hnot : q.owned = true → q.owner.toNat ≠ e.idx) : (settle e).ports[p]? = some q := by
  by_cases hp : e.ses.phase = .idle
  · rwa [settle_idle e hp]
  · have hopen := he.session.busy_open (he.session.busy_iff.mpr hp)
    obtain ⟨r, hr, hown, howner⟩ := he.session.holds_port hopen
    refine ((settle_onOwnPort e).others p ?_).trans hq
    rintro rfl
    obtain rfl := Option.some.inj (hq.symm.trans hr)
    exact hnot hown howner

/-- A port that none of the sessions `m` to `n - 1` holds is as it was after their turns (R11, R105). -/
theorem State.Coherent.settleUpTo_port {s : State} (hs : s.Coherent) {m n p : Nat} {q : Port} (hmn : m ≤ n)
    (hq : (settleUpTo m s).ports[p]? = some q)
    (hnot : ∀ j, m ≤ j → j < n → q.owned = true → q.owner.toNat ≠ j) : (settleUpTo n s).ports[p]? = some q := by
  induction n, hmn using Nat.le_induction with
  | base => exact hq
  | succ n hmn ih =>
    have hq' := ih fun j hm hn => hnot j hm (Nat.lt_succ_of_lt hn)
    rw [settleUpTo_succ]
    rcases (settleUpTo n s).onSession_cases n settle with ⟨-, h⟩ | ⟨y, hy, h⟩
    · rwa [h]
    · rw [h]
      exact settle_port_of_not_held ((hs.settleUpTo_settled n).1.engine_sound hy) hq' (hnot n hmn n.lt_succ_self)

/-- The turn of a session in the `Settle` of all (R11): it runs on the record and the port that the session holds as
they were, its record stays, and the port does if it is left free. -/
theorem State.Coherent.settle_turn {s : State} (hs : s.Coherent) {k p : Nat} {x : Session} {q : Port}
    (hx : s.sessions[k]? = some x) (hq : s.ports[p]? = some q) (howner : q.owner.toNat = k) :
    ∃ e : Engine, e.ses = x ∧ e.ports[p]? = some q ∧ (settleAll s).sessions[k]? = some (settle e).ses ∧
      ∀ r : Port, (settle e).ports[p]? = some r → r.owned = false → (settleAll s).ports[p]? = some r := by
  have hlt : k < s.sessions.length := (List.getElem?_eq_some_iff.mp hx).1
  have hxk : (settleUpTo k s).sessions[k]? = some x := (settleUpTo_later k k s le_rfl).trans hx
  have hqk : (settleUpTo k s).ports[p]? = some q :=
    hs.settleUpTo_port k.zero_le hq fun j _ hj _ => howner ▸ hj.ne'
  have hturn : settleUpTo (k + 1) s = (settleUpTo k s).withEngine k (settle ((settleUpTo k s).engine k x)) :=
    State.onSession_some k settle _ x hxk
  refine ⟨(settleUpTo k s).engine k x, rfl, hqk, ?session, fun r hr hfree => ?port⟩
  case session =>
    rw [settleAll, settleUpTo_session _ k s hlt, hturn]
    simp [hlt]
  case port =>
    exact hs.settleUpTo_port hlt (by rw [hturn]; exact hr) fun _ _ _ ho => absurd (hfree.symm.trans ho) nofun

/-! ### `End` in the middle of a transaction -/

/-- R306: `End` of an operation that is no guard exit. -/
theorem endOp_of_not_guardExit {e : Engine} (c : ErrCode) (h : isGuardExit e.ses.lastOp = false) :
    endOp c e = finish c e := by
  rcases endOp_cases c e with ⟨-, hend⟩ | ⟨-, hg, -⟩
  · exact hend
  · exact absurd (h.symm.trans hg) nofun

/-- R285: the guard's end on an Open session releases its port. -/
theorem guardFinish_of_open {e : Engine} (ho : e.ses.isOpen = true) {q : Port}
    (hq : e.ports[e.ses.portSel.toNat]? = some q) :
    guardFinish e =
      { e with
        ses := { e.ses with
          phase := .idle, busy := false, isOpen := false, guardActive := false, err := .noError, done := true }
        ports := e.ports.set e.ses.portSel.toNat { q with owned := false, owner := 0#3 } } := by
  rw [guardFinish, closeAction_of_open ho hq]
  rfl

/-- R285, R306: `End` of a guard exit's transaction: the code goes to GDIS and the port is released. -/
theorem endOp_of_exiting {e : Engine} (c : ErrCode) (h : e.ses.Exiting) (ho : e.ses.isOpen = true) {q : Port}
    (hq : e.ports[e.ses.portSel.toNat]? = some q) :
    endOp c e =
      { e with
        ses := { e.ses with
          phase := .idle, busy := false, gdis := some c, isOpen := false, guardActive := false
          err := .noError, done := true }
        ports := e.ports.set e.ses.portSel.toNat { q with owned := false, owner := 0#3 } } := by
  rcases endOp_cases c e with ⟨hidle | hop, -⟩ | ⟨-, -, hend⟩
  · exact absurd hidle h.active
  · exact absurd (hop.symm.trans h.op) nofun
  · rw [hend]
    exact guardFinish_of_open
      (e := { e with ses := { e.ses with phase := .idle, busy := false, gdis := some c } }) ho hq

/-! ### The phase that the next tick ends -/

/-- The next tick brings CNT to the timeout of the phase in progress, whose code is `c` (R185). -/
inductive Session.TimesOut (x : Session) : ErrCode → Prop where
  | write (hp : x.phase = .tx) (hcnt : x.cnt.toNat + 1 = x.wrT.toNat) : x.TimesOut .writeTimeout
  | read (hp : x.phase = .rx) (hcnt : x.cnt.toNat + 1 = x.rdT.toNat) : x.TimesOut .readTimeout

theorem Session.TimesOut.active {x : Session} {c : ErrCode} (h : x.TimesOut c) : x.phase ≠ .idle := by
  cases h with
  | write hp | read hp => rw [hp]; exact nofun

/-- Below a timeout CNT is below its ceiling (R184). -/
theorem Session.TimesOut.tickSession {x : Session} {c : ErrCode} (h : x.TimesOut c) :
    tickSession x = { x with cnt := x.cnt + 1#16 } := by
  have hne : x.cnt ≠ 0xFFFF#16 := by
    cases h with
    | write _ hcnt | read _ hcnt => bv_omega
  rw [Machine.tickSession, if_neg h.active, if_neg hne]

/-- R185, R187: once the tick is counted, `Settle` ends the phase with its code. -/
theorem Session.TimesOut.settle {x : Session} {c : ErrCode} (h : x.TimesOut c) {e : Engine}
    (he : e.ses = { x with cnt := x.cnt + 1#16 }) (hs : SettledOk e.ports x) : settle e = endOp c e := by
  cases h with
  | write hp hcnt =>
    obtain ⟨hsent, -⟩ := hs.tx_bounds hp
    obtain ⟨q, hq, hb, -⟩ := hs.tx_busy hp
    have hload : handOff e = e := handOff_waits e q (by rw [he]; exact hq) fun hload =>
      absurd (hb.symm.trans hload.2) nofun
    have hwrite : writePhaseEnd e = e := if_neg fun hend => by
      rw [he] at hend
      exact absurd (congrArg BitVec.toNat hend.2) hsent.ne
    have hto : x.wrT ≤ x.cnt + 1#16 := by bv_omega
    rw [settle_busy e (by simp [he, hp]), hload, hwrite]
    simp [phaseOutcome, he, hp, hto]
  | read hp hcnt =>
    obtain ⟨hrx, -⟩ := hs.rx_bounds hp
    have hload : handOff e = e := handOff_not_tx e (by simp [he, hp])
    have hwrite : writePhaseEnd e = e := if_neg (by simp [he, hp])
    have hne : x.rxcnt ≠ 5#3 := fun h5 => absurd (congrArg BitVec.toNat h5) hrx.ne
    have hto : x.rdT ≤ x.cnt + 1#16 := by bv_omega
    rw [settle_busy e (by simp [he, hp]), hload, hwrite]
    simp [phaseOutcome, he, hp, hne, hto]

/-- The step of the tick that times session `k` out: `End` runs with the code on the record with the tick counted and on
the port as it was; its record stays, and the port does if it is left free. -/
theorem step_timesOut {s t : State} {k : Nat} {x : Session} {rest : List Input} {c : ErrCode} (hinv : s.Inv)
    (hin : s.inputs = .tick :: rest) (hx : s.sessions[k]? = some x) (hstep : step s = .next t) (hc : x.TimesOut c) :
    ∃ e : Engine, e.ses = { x with cnt := x.cnt + 1#16 } ∧
      e.ports[x.portSel.toNat]? = s.ports[x.portSel.toNat]? ∧ t.sessions[k]? = some (endOp c e).ses ∧
      ∀ q : Port, (endOp c e).ports[x.portSel.toNat]? = some q → q.owned = false →
        t.ports[x.portSel.toNat]? = some q := by
  have hinv' : State.Inv { s with inputs := rest } := hinv.of_records_eq rfl rfl
  have ht : t = settleAll (tickEvent { s with inputs := rest }) :=
    (Host.Outcome.next.inj ((step_cons s _ rest hin).symm.trans hstep)).symm
  have hok := hinv.session_ok k x hx
  obtain ⟨q, hq, -, howner⟩ := hok.holds_port (hok.busy_open (hok.busy_iff.mpr hc.active))
  obtain ⟨e, he, hport, hses, hfree⟩ := hinv'.coherent.tick.settle_turn
    ((tickEvent_session hx).trans (congrArg some hc.tickSession)) hq howner
  have hsettle : settle e = endOp c e :=
    hc.settle he ((hinv.settled_ok k x hx).of_port_eq fun _ => hport.trans hq.symm)
  rw [hsettle, ← ht] at hses hfree
  exact ⟨e, he, hport.trans hq.symm, hses, hfree⟩

/-- Settles O35: the four clauses are the two phases of an operation that is no guard exit and of one that is. -/
theorem tickEndsAPhaseByTimeout : Obligations.TickEndsAPhaseByTimeout := by
  intro s t k x rest hinv hin hx hstep
  have plain (h31 : x.lastOp ≠ 0x31#8) (h32 : x.lastOp ≠ 0x32#8) (c : ErrCode) (hc : x.TimesOut c) :
      t.sessions[k]? = some { x with
        cnt := x.cnt + 1#16, phase := .idle, busy := false, err := c, done := true } := by
    obtain ⟨e, he, -, ht, -⟩ := step_timesOut hinv hin hx hstep hc
    have hop : isGuardExit x.lastOp = false :=
      Bool.eq_false_iff.mpr fun hg => ((isGuardExit_iff _).mp hg).elim h31 h32
    rw [ht, endOp_of_not_guardExit c (by rw [he]; exact hop), finish_ses, he]
  have exits (q : Port) (hop : x.lastOp = 0x31#8 ∨ x.lastOp = 0x32#8) (hq : s.ports[x.portSel.toNat]? = some q)
      (c : ErrCode) (hc : x.TimesOut c) :
      t.sessions[k]? = some { x with
          cnt := x.cnt + 1#16, phase := .idle, busy := false, gdis := some c
          isOpen := false, guardActive := false, err := .noError, done := true } ∧
        t.ports[x.portSel.toNat]? = some { q with owned := false, owner := 0#3 } := by
    obtain ⟨⟨_, _, _, ports, _⟩, rfl, hport, ht, hfree⟩ := step_timesOut hinv hin hx hstep hc
    have hok := hinv.session_ok k x hx
    have hqe : ports[x.portSel.toNat]? = some q := hport.trans hq
    rw [endOp_of_exiting c ⟨hc.active, (isGuardExit_iff _).mpr hop⟩ (hok.busy_open (hok.busy_iff.mpr hc.active)) hqe]
      at ht hfree
    exact ⟨ht, hfree _ (List.getElem?_set_self (List.getElem?_eq_some_iff.mp hqe).1) rfl⟩
  refine ⟨fun h31 h32 => ?_, fun q hop hq => ?_⟩
  · exact ⟨fun hp hcnt => plain h31 h32 _ (.write hp hcnt), fun hp hcnt => plain h31 h32 _ (.read hp hcnt)⟩
  · exact ⟨fun hp hcnt => exits q hop hq _ (.write hp hcnt), fun hp hcnt => exits q hop hq _ (.read hp hcnt)⟩

end Sys2Proof.Machine

/-! PROOFS. SEND and the typed operations (R224 to R244): on a ready Open session each starts its transaction. -/

namespace Sys2Proof.Machine

/-! ### Commands that start a transaction -/

/-- R221, R222: a command on a ready session whose body starts a transaction leaves that transaction's record and nothing
else. -/
theorem launch_of_startTxn (i : Instr) {body : Engine → Engine} {cmd : Byte} {data : Data} {s : State} {x : Session}
    (h : Ready s x)
    (hbody : body (s.engine s.sel { x with done := false, err := .noError, lastOp := opOf i }) =
      startTxn cmd data (s.engine s.sel { x with done := false, err := .noError, lastOp := opOf i })) :
    s.launch (opOf i) body = s.setSession s.sel (started s.params.checksumAlg i cmd data x) := by
  rw [State.launch_ready _ body s x h, hbody]
  rfl

/-- R224: `WireOp` on an Open session, its check passed and its operation mapped. -/
theorem wireOp_starts {n : WireName} {d : Data} {c : Byte} {e : Engine} (hc : wireOctet e.params.opcodeMap n = some c)
    (ho : e.ses.isOpen = true) : wireOp n d true e = startTxn c d e := by
  simp [wireOp, hc, ho]

/-- R224: an operation whose body is `WireOp`, its check passed, starts its transaction; its data may depend on the
parameters. -/
theorem startsWire_of_wireOp {i : Instr} {n : WireName} {data : Params → Data} {body : Engine → Engine}
    (hexec : ∀ s, exec i s = .next (s.launch (opOf i) body))
    (hbody : ∀ e : Engine, body e = wireOp n (data e.params) true e) : StartsWire i n data := by
  intro s x cmd hready ho hcmd
  rw [hexec, launch_of_startTxn i hready ((hbody _).trans (wireOp_starts hcmd ho))]
  rfl

/-! ### SEND -/

theorem exec_send (cmd : Byte) (data : Data) (s : State) :
    exec (.send cmd data) s = .next (s.launch (opOf (.send cmd data)) (sendBody cmd data)) := rfl

theorem sendBody_of_open {cmd : Byte} {data : Data} {e : Engine} (ho : e.ses.isOpen = true) :
    sendBody cmd data e = startTxn cmd data e := by
  simp [sendBody, ho]

theorem sendBody_of_closed {cmd : Byte} {data : Data} {e : Engine} (ho : e.ses.isOpen = false) :
    sendBody cmd data e = endOp .notOpen e := by
  simp [sendBody, ho]

/-- Settles O17: SEND's body looks at OPEN alone. -/
theorem sendStartsARawTransaction : Obligations.SendStartsARawTransaction := by
  intro s x cmd data hready
  rw [exec_send]
  refine ⟨fun ho => ?_, fun ho => ?_⟩
  · rw [launch_of_startTxn _ hready (sendBody_of_open ho)]
  · rw [launch_of_endOp _ hready (sendBody_of_closed ho) rfl rfl]
    rfl

/-! ### The typed operations -/

/-- Settles O18: DATA ≤ 1000 is the check of the four writes. -/
theorem setpointAndLimitWritesSendTheirData : Obligations.SetpointAndLimitWritesSendTheirData := by
  intro d hd
  have hcheck : permilleInRange d = true := decide_eq_true hd
  have hbody (n : WireName) (e : Engine) : wireOp n d (permilleInRange d) e = wireOp n d true e := by rw [hcheck]
  exact ⟨startsWire_of_wireOp (fun _ => rfl) (hbody _), startsWire_of_wireOp (fun _ => rfl) (hbody _),
    startsWire_of_wireOp (fun _ => rfl) (hbody _), startsWire_of_wireOp (fun _ => rfl) (hbody _)⟩

/-- Settles O19: DATA in {0, 1, 2} is WRMODE's check. -/
theorem modeWriteSendsItsData : Obligations.ModeWriteSendsItsData := by
  intro d hd
  have hcheck : modeInSet d = true := decide_eq_true (by simpa using hd)
  exact startsWire_of_wireOp (body := wireOp .modeW d (modeInSet d)) (fun _ => rfl) fun e => by rw [hcheck]

/-- R127: a read has no check and sends 0x0000. -/
theorem startsWire_of_read {i : Instr} {n : WireName}
    (hexec : ∀ s, exec i s = .next (s.launch (opOf i) (wireOp n readData true))) : StartsWire i n fun _ => 0#16 :=
  startsWire_of_wireOp hexec fun _ => rfl

/-- Settles O20: each is a read (R127). -/
theorem readsSendZero : Obligations.ReadsSendZero :=
  ⟨startsWire_of_read fun _ => rfl, startsWire_of_read fun _ => rfl, startsWire_of_read fun _ => rfl,
    startsWire_of_read fun _ => rfl, startsWire_of_read fun _ => rfl, startsWire_of_read fun _ => rfl,
    startsWire_of_read fun _ => rfl⟩

/-- Settles O21: each is a read (R127). -/
theorem actualValueReadsSendZero : Obligations.ActualValueReadsSendZero :=
  ⟨startsWire_of_read fun _ => rfl, startsWire_of_read fun _ => rfl, startsWire_of_read fun _ => rfl,
    startsWire_of_read fun _ => rfl⟩

/-- Settles O22: both are OPERATION_W with no check, with the data values of R7. -/
theorem rfSwitchSendsOneOrZero : Obligations.RfSwitchSendsOneOrZero :=
  ⟨startsWire_of_wireOp (body := wireOp .operationW rfEnableData true) (fun _ => rfl) fun _ => rfl,
    startsWire_of_wireOp (body := wireOp .operationW rfDisableData true) (fun _ => rfl) fun _ => rfl⟩

/-- Settles O23: the data value is read from the engine's parameters. -/
theorem resetErrorSendsTheSentinel : Obligations.ResetErrorSendsTheSentinel :=
  startsWire_of_wireOp (body := rsterrBody) (fun _ => rfl) fun _ => rfl

/-! ### The end of the read phase -/

/-- R188: with five octets collected the read phase ends in the comparison. -/
theorem settle_of_collected {e : Engine} (hp : e.ses.phase = .rx) (hcnt : e.ses.rxcnt = 5#3) :
    settle e = complete e := by
  have hload : handOff e = e := handOff_not_tx e (by rw [hp]; exact nofun)
  have hwrite : writePhaseEnd e = e := if_neg (by simp [hp])
  rw [settle_busy e (by rw [hp]; exact nofun), hload, hwrite, phaseOutcome, if_pos ⟨hp, hcnt⟩]

/-- R223: the comparison that ends a transaction on a match. -/
theorem complete_of_match {e : Engine} (h : e.ses.rxf.b4 = e.ses.rxf.expectedCk e.params.checksumAlg) :
    complete e = endOp .noError { e with ses := { e.ses with
      rxCk := e.ses.rxf.b4, expCk := e.ses.rxf.b4, ckValid := true
      respAddr := e.ses.rxf.b0, respCmd := e.ses.rxf.b1, respData := e.ses.rxf.b2 ++ e.ses.rxf.b3
      respOp := e.ses.lastOp } } := by
  rcases complete_cases e with ⟨-, hc⟩ | ⟨hne, -⟩
  · rwa [← h] at hc
  · exact absurd h hne

/-- R223: the comparison that ends a transaction on a mismatch leaves RESP alone. -/
theorem complete_of_mismatch {e : Engine} (h : e.ses.rxf.b4 ≠ e.ses.rxf.expectedCk e.params.checksumAlg) :
    complete e = endOp .checksumMismatch { e with ses := { e.ses with
      rxCk := e.ses.rxf.b4, expCk := e.ses.rxf.expectedCk e.params.checksumAlg, ckValid := false } } :=
  (complete_cases e).elim (fun hc => absurd hc.1 h) (·.2)

/-- Settles O33: the comparison's two cases, each ended by the `End` of an operation that is no guard exit or of one that
is. -/
theorem readPhaseEndComparesTheChecksum : Obligations.ReadPhaseEndComparesTheChecksum := by
  intro e hp hcnt
  have hactive : e.ses.phase ≠ .idle := by rw [hp]; exact nofun
  rw [settle_of_collected hp hcnt]
  refine ⟨fun h31 h32 => ?plain, fun q hop ho hq => ?exit⟩
  case plain =>
    have hplain : isGuardExit e.ses.lastOp = false :=
      Bool.eq_false_iff.mpr fun hg => ((isGuardExit_iff _).mp hg).elim h31 h32
    exact ⟨fun hm => (complete_of_match hm).trans (endOp_of_not_guardExit _ hplain),
      fun hm => (complete_of_mismatch hm).trans (endOp_of_not_guardExit _ hplain)⟩
  case exit =>
    have hexit : isGuardExit e.ses.lastOp = true := (isGuardExit_iff _).mpr hop
    refine ⟨fun hm => (complete_of_match hm).trans ?_, fun hm => (complete_of_mismatch hm).trans ?_⟩
    all_goals
      apply endOp_of_exiting
      exacts [⟨hactive, hexit⟩, ho, hq]

end Sys2Proof.Machine

/-! PROOFS. The status view (R250, R251). -/

namespace Sys2Proof.Machine

/-- R251: CTRL_MODE is `d[7:5]`, or 3 where it names no mode. -/
theorem controlMode_code (d : Data) : (controlModeOf d).code.toNat = min (d.toNat / 32 % 8) 3 := by
  have hfield : (d.extractLsb' 5 3).toNat = d.toNat / 32 % 8 := by
    simp only [BitVec.extractLsb'_toNat, Nat.shiftRight_eq_div_pow, Nat.reducePow]
  rw [← hfield, controlModeOf]
  generalize (d.extractLsb' 5 3).toNat = n
  match n with
  | 0 | 1 | 2 => rfl
  | n + 3 => exact (Nat.min_eq_right (Nat.le_add_left 3 n)).symm

/-- R251: REMOTE_SRC is `d[10:8]`, or 0xF where it names no source. -/
theorem remoteSource_code (d : Data) :
    (remoteSourceOf d).code.toNat = if d.toNat / 256 % 8 ≤ 5 then d.toNat / 256 % 8 else 15 := by
  have hfield : (d.extractLsb' 8 3).toNat = d.toNat / 256 % 8 := by
    simp only [BitVec.extractLsb'_toNat, Nat.shiftRight_eq_div_pow, Nat.reducePow]
  rw [← hfield, remoteSourceOf]
  generalize (d.extractLsb' 8 3).toNat = n
  match n with
  | 0 | 1 | 2 | 3 | 4 | 5 => rfl
  | n + 6 => exact (if_neg (by omega)).symm

/-- The fields of SDEC that are wider than one bit (R251). -/
theorem statusView_fields (d : Data) :
    (statusView d).extractLsb' 16 16 = d ∧ (statusView d).extractLsb' 12 4 = 0#4 ∧
      (statusView d).extractLsb' 2 2 = (controlModeOf d).code ∧
      (statusView d).extractLsb' 4 4 = (remoteSourceOf d).code := by
  simp (disch := omega) only [statusView, statusDecode, BitVec.extractLsb'_append_eq_of_le,
    BitVec.extractLsb'_append_eq_of_add_le, BitVec.extractLsb'_eq_self, Nat.reduceSub, and_self]

/-- The single-bit fields of SDEC (R251). -/
theorem statusView_bits (d : Data) :
    (statusView d).getLsbD 0 = d.getLsbD 0 ∧ (statusView d).getLsbD 1 = d.getLsbD 1 ∧
      (statusView d).getLsbD 8 = d.getLsbD 11 ∧ (statusView d).getLsbD 9 = d.getLsbD 12 ∧
      (statusView d).getLsbD 10 = d.getLsbD 14 ∧ (statusView d).getLsbD 11 = d.getLsbD 15 := by
  simp only [statusView, statusDecode, BitVec.getLsbD_append]
  simp

/-- Settles O50: SDEC is at offset 0x34, and each field of `statusView` at its place. -/
theorem statusViewPacksTheStatusWord : Obligations.StatusViewPacksTheStatusWord := by
  refine ⟨fun d => ?_, fun s k x hx hk => readReg_session hx hk 0x34 .sdec (by decide) rfl⟩
  obtain ⟨hword, hzero, hmode, hsource⟩ := statusView_fields d
  obtain ⟨hcontactor, hsampling, hpower, hfreq, hready, hset⟩ := statusView_bits d
  rw [hmode, hsource]
  exact ⟨hword, hzero, hcontactor, hsampling, controlMode_code d, remoteSource_code d, hpower, hfreq, hready, hset⟩

end Sys2Proof.Machine

/-! PROOFS. A transaction from its launch to its end (R222, R183, R186, R223). Every event of it is work of one session's
engine, and the other sessions are at rest meanwhile, so the `Settle` of all is the `Settle` of that session. -/

namespace Sys2Proof.Machine

/-! ### The `Settle` of one session -/

/-- `Settle` of a session number that is at rest, or that no session has. -/
theorem onSession_settle_of_rests {s : State} {n : Nat}
    (h : ∀ z : Session, s.sessions[n]? = some z → s.Rests n z) : s.onSession n settle = s := by
  cases hz : s.sessions[n]? with
  | none => exact State.onSession_none n settle s hz
  | some z => exact (h z hz).onSession_settle

/-- Where every other session is at rest, the `Settle` of all is session `k`'s (R11, R105). -/
theorem State.Coherent.settleAll_eq {s : State} (hs : s.Coherent) {k : Nat} {y : Session}
    (hk : s.sessions[k]? = some y)
    (hothers : ∀ (j : Nat) (z : Session), j ≠ k → s.sessions[j]? = some z → s.Rests j z) :
    settleAll s = s.withEngine k (settle (s.engine k y)) := by
  have hturns (n : Nat) : Machine.settleUpTo n s = if k < n then s.onSession k settle else s := by
    induction n with
    | zero => rfl
    | succ n ih =>
      rw [settleUpTo_succ, ih]
      rcases lt_trichotomy n k with hlt | rfl | hgt
      · rw [if_neg hlt.not_gt, if_neg (by omega)]
        exact onSession_settle_of_rests fun z => hothers n z hlt.ne
      · rw [if_neg (lt_irrefl n), if_pos n.lt_succ_self]
      · rw [if_pos hgt, if_pos (by omega)]
        refine onSession_settle_of_rests fun z hz => ?_
        rw [State.onSession_other k n settle s hgt.ne'] at hz
        exact (hothers n z hgt.ne' hz).onSession hs hgt.ne' fun _ he => (settle_goesTo he).1
  rw [settleAll, hturns, if_pos (List.getElem?_eq_some_iff.mp hk).1, State.onSession_some k settle s y hk]

/-- After the work of session `k`'s engine, the `Settle` of all is that engine's (R11, R105). -/
theorem State.Inv.settleAll_withEngine {s : State} (hs : s.Inv) {k : Nat} {x : Session} {e : Engine}
    (hk : s.sessions[k]? = some x) (he : (s.engine k x).GoesTo e) (hparams : e.params = s.params) :
    settleAll (s.withEngine k e) = s.withEngine k (settle e) := by
  have hlt : k < s.sessions.length := (List.getElem?_eq_some_iff.mp hk).1
  have hself : (s.withEngine k e).sessions[k]? = some e.ses := List.getElem?_set_self hlt
  have hengine : (s.withEngine k e).engine k e.ses = e := by
    obtain ⟨idx, params, ses, ports, trace⟩ := e
    obtain rfl : idx = k := he.frame.idx
    obtain rfl : params = s.params := hparams
    rfl
  rw [(hs.coherent.withEngine hk he).settleAll_eq hself, hengine]
  · simp [State.withEngine]
  · intro j z hne hz
    rw [State.withEngine_sessions, List.getElem?_set_ne hne.symm] at hz
    exact (hs.rests hz).withEngine hs.coherent hne he.frame

/-! ### The launching step -/

/-- A command's body either leaves the session IDLE or starts a transaction and does nothing else (R221). -/
def EndsOrStarts (body : Engine → Engine) : Prop :=
  ∀ e : Engine, (body e).ses.phase = .idle ∨ ∃ cmd data, body e = startTxn cmd data e

theorem endsOrStarts_wireOp (n : WireName) (d : Data) (v : Bool) : EndsOrStarts (wireOp n d v) := by
  intro e
  rcases wireOp_cases n d v e with ⟨-, h⟩ | ⟨-, -, h⟩ | ⟨c, -, -, ⟨-, h⟩ | ⟨-, h⟩⟩
  · exact .inl (h ▸ endOp_phase _ e)
  · exact .inl (h ▸ endOp_phase _ e)
  · exact .inl (h ▸ endOp_phase _ e)
  · exact .inr ⟨c, d, h⟩

theorem endsOrStarts_sendBody (cmd : Byte) (data : Data) : EndsOrStarts (sendBody cmd data) := by
  intro e
  cases ho : e.ses.isOpen with
  | false => exact .inl (sendBody_of_closed ho ▸ endOp_phase _ e)
  | true => exact .inr ⟨cmd, data, sendBody_of_open ho⟩

theorem endsOrStarts_genterBody : EndsOrStarts genterBody := by
  intro e
  unfold genterBody
  dsimp only
  split_ifs <;> exact .inl (endOp_phase _ _)

theorem endsOrStarts_guardExitBody : EndsOrStarts guardExitBody := by
  intro e
  unfold guardExitBody
  split_ifs
  · exact .inl (endOp_phase _ e)
  · rcases guardDisable_cases e with ⟨-, h⟩ | ⟨c, -, ⟨-, h⟩ | ⟨-, h⟩⟩
    · exact .inl (h ▸ rfl)
    · exact .inl (h ▸ rfl)
    · exact .inr ⟨c, rfDisableData, h⟩

theorem endsOrStarts_gexitfBody : EndsOrStarts gexitfBody := by
  intro e
  unfold gexitfBody
  split_ifs
  · exact .inl (endOp_phase _ e)
  · exact .inl rfl

/-- Every operation is the launch of a body that ends at once or starts a transaction (R221). -/
theorem exec_endsOrStarts (i : Instr) :
    ∃ body, EndsOrStarts body ∧ ∀ s, exec i s = .next (s.launch (opOf i) body) := by
  cases i with
  | openSession | closeSession | encode | decode => exact ⟨_, fun _ => .inl (endOp_phase _ _), fun _ => rfl⟩
  | send cmd data => exact ⟨_, endsOrStarts_sendBody cmd data, fun _ => rfl⟩
  | genter => exact ⟨_, endsOrStarts_genterBody, fun _ => rfl⟩
  | gexitn | gexite => exact ⟨_, endsOrStarts_guardExitBody, fun _ => rfl⟩
  | gexitf => exact ⟨_, endsOrStarts_gexitfBody, fun _ => rfl⟩
  | rsterr => exact ⟨rsterrBody, fun e => endsOrStarts_wireOp _ e.params.resetErrorData _ e, fun _ => rfl⟩
  | wrsp | rdsp | wrlu | rdlu | wrli | rdli | wrlp | rdlp | wrmode | rdmode | rfon | rfoff | rdoper | rdstat | rdapwr
  | rdavol | rdacur | rdafrq => exact ⟨_, endsOrStarts_wireOp _ _ _, fun _ => rfl⟩

/-- A command that leaves a ready session in phase TX has started a transaction there and changed nothing else. -/
theorem exec_of_tx {i : Instr} {s u : State} {x y : Session} (hready : Ready s x) (hexec : exec i s = .next u)
    (hy : u.sessions[s.sel]? = some y) (hp : y.phase = .tx) :
    ∃ cmd data, y = started s.params.checksumAlg i cmd data x ∧ u = s.setSession s.sel y := by
  have hlt : s.sel < s.sessions.length := (List.getElem?_eq_some_iff.mp hready.1).1
  obtain ⟨body, hbody, hlaunch⟩ := exec_endsOrStarts i
  obtain rfl := Host.Outcome.next.inj ((hlaunch s).symm.trans hexec)
  rcases hbody (s.engine s.sel { x with done := false, err := .noError, lastOp := opOf i }) with
    hidle | ⟨cmd, data, hstart⟩
  · rw [State.launch_ready _ body s x hready, State.withEngine_sessions, List.getElem?_set_self hlt] at hy
    obtain rfl := Option.some.inj hy
    exact absurd (hidle.symm.trans hp) nofun
  · have hu := launch_of_startTxn i hready hstart
    rw [hu, State.setSession_sessions, List.getElem?_set_self hlt] at hy
    obtain rfl := Option.some.inj hy
    exact ⟨cmd, data, rfl, hu⟩

/-- R188: where the hand-off leaves a settled session, `Settle` is the hand-off alone. -/
theorem settle_eq_handOff {e : Engine} (hp : e.ses.phase ≠ .idle) (h : SettledOk (handOff e).ports (handOff e).ses) :
    settle e = handOff e := by
  rw [settle_busy e hp, writePhaseEnd_settled h, phaseOutcome_settled h]

/-- R183, R222: the record of a transaction just started is settled while another character is in the transmitter. -/
theorem settledOk_started {ports : List Port} {alg : ChecksumAlg} {i : Instr} {cmd : Byte} {data : Data} {x : Session}
    {q : Port} (hq : ports[x.portSel.toNat]? = some q) (hb : q.txBusy = true) (hwrT : 0 < x.wrT.toNat) :
    SettledOk ports (started alg i cmd data x) where
  tx_bounds _ := ⟨Nat.succ_pos 4, hwrT⟩
  tx_busy _ := ⟨q, hq, hb, .inl ⟨rfl, rfl⟩⟩
  rx_bounds := nofun

/-- R183: the `Settle` of a transaction just started loads octet 0 into an idle transmitter. -/
theorem settle_started {e : Engine} {alg : ChecksumAlg} {i : Instr} {cmd : Byte} {data : Data} {x : Session}
    (he : e.ses = started alg i cmd data x) {q : Port} (hq : e.ports[x.portSel.toNat]? = some q)
    (hb : q.txBusy = false) (hwrT : 0 < x.wrT.toNat) :
    settle e =
      { e with
        ports := e.ports.set x.portSel.toNat { q with txBusy := true, txByte := e.ses.txf.b0 }
        trace := e.trace ++ [.txChar x.portSel.toNat e.ses.txf.b0]
        ses := { e.ses with txLoaded := 1#3 } } := by
  obtain ⟨idx, params, ses, ports, trace⟩ := e
  obtain rfl : ses = started alg i cmd data x := he
  have hlt : x.portSel.toNat < ports.length := (List.getElem?_eq_some_iff.mp hq).1
  have hload := handOff_loads ⟨idx, params, started alg i cmd data x, ports, trace⟩ q hq rfl (Nat.succ_pos 4) hb
  rw [settle_eq_handOff, hload]
  · rfl
  · exact nofun
  · rw [hload]
    exact ⟨fun _ => ⟨Nat.succ_pos 4, hwrT⟩, fun _ => ⟨_, List.getElem?_set_self hlt, rfl, .inr ⟨rfl, rfl⟩⟩, nofun⟩

/-! ### Runs of one session's transaction -/

/-- The events `es` lead from `s` to `t`, where session `k` has the record `y`; meanwhile the block has shown `out`. -/
structure State.Reaches (s t : State) (es : List Input) (k : Nat) (y : Session) (out : List Output) : Prop where
  run : ∀ more, after s (es ++ more) = after t more
  inv : t.Inv
  params : t.params = s.params
  record : t.sessions[k]? = some y
  trace : t.trace = s.trace ++ out

theorem State.Reaches.refl {s : State} (hs : s.Inv) {k : Nat} {x : Session} (hk : s.sessions[k]? = some x) :
    s.Reaches s [] k x [] := ⟨fun _ => rfl, hs, rfl, hk, (List.append_nil _).symm⟩

theorem State.Reaches.trans {s t u : State} {es es' : List Input} {k : Nat} {y z : Session} {out out' : List Output}
    (h : s.Reaches t es k y out) (h' : t.Reaches u es' k z out') : s.Reaches u (es ++ es') k z (out ++ out') where
  run more := by rw [List.append_assoc, h.run, h'.run]
  inv := h'.inv
  params := h'.params.trans h.params
  record := h'.record
  trace := by rw [h'.trace, h.trace, List.append_assoc]

/-- One event that is work of session `k`'s engine. -/
theorem State.Inv.reaches_of_step {s : State} (hs : s.Inv) {i : Input} {k : Nat} {x : Session} {e : Engine}
    {out : List Output} (hk : s.sessions[k]? = some x) (h : stepEvent i s = .next (s.withEngine k e))
    (hout : e.trace = s.trace ++ out) : s.Reaches (s.withEngine k e) [i] k e.ses out where
  run more := after_cons_next s _ i more h
  inv := stepEvent_inv i hs h
  params := rfl
  record := List.getElem?_set_self (List.getElem?_eq_some_iff.mp hk).1
  trace := hout

/-! ### The five transmit completions -/

/-- The step of a transmit completion on the port that session `k` has open (R182). -/
theorem stepEvent_txDone {s : State} (hs : s.Inv) {k : Nat} {x : Session} {q : Port} (hk : s.sessions[k]? = some x)
    (ho : x.isOpen = true) (hq : s.ports[x.portSel.toNat]? = some q) (hb : q.txBusy = true) :
    stepEvent (.txDone x.portSel.toNat) s =
      .next (s.withEngine k (settle ((s.engine k x).txDone x.portSel.toNat))) := by
  obtain ⟨r, hr, hown, howner⟩ := (hs.session_ok k x hk).holds_port ho
  obtain rfl := Option.some.inj (hq.symm.trans hr)
  have hevent : txDoneEvent x.portSel.toNat s = .next (s.withEngine k ((s.engine k x).txDone x.portSel.toNat)) := by
    rw [← txDone_onSession _ k x s hk, txDoneEvent, hq]
    simp [hb, hown, howner]
  have hgo := txDone_goesTo (hs.coherent.engine_sound hk) hq hb hown howner
  have hparams : ((s.engine k x).txDone x.portSel.toNat).params = s.params := by rw [Engine.txDone, countSent_eq]; rfl
  rw [stepEvent, hevent, thenSettle, hs.settleAll_withEngine hk hgo hparams]

/-- The record `x` in phase TX with octet `n` of the request in the transmitter (R183). -/
def Session.transmitting (x : Session) (n : Nat) : Session :=
  { x with txLoaded := BitVec.ofNat 3 (n + 1), txSent := BitVec.ofNat 3 n }

/-- R182: octet `n` is counted and the transmitter is idle. -/
theorem txDone_transmitting {e : Engine} {x : Session} {n : Nat} {q : Port} (he : e.ses = x.transmitting n) (hn : n ≤ 4)
    (hp : x.phase = .tx) (hq : e.ports[x.portSel.toNat]? = some q) :
    e.txDone x.portSel.toNat =
      { e with
        ports := e.ports.set x.portSel.toNat { q with txBusy := false }
        ses := { x with txLoaded := BitVec.ofNat 3 (n + 1), txSent := BitVec.ofNat 3 (n + 1) } } := by
  have hlt : n % 8 < (n + 1) % 8 := by omega
  rw [Engine.txDone, countSent_eq, Engine.modPort, modify_eq_set _ _ _ _ hq]
  simp [he, Session.transmitting, hp, hlt, BitVec.ofNat_add]

/-- `e` with octet `n` of the request loaded into the transmitter of its port `q` and shown outside, its record `x` but
for the two counters (R183). -/
def Engine.sendOctet (e : Engine) (x : Session) (q : Port) (n : Nat) : Engine :=
  { e with
    ports := e.ports.set x.portSel.toNat { q with txBusy := true, txByte := x.txf.get n }
    trace := e.trace ++ [.txChar x.portSel.toNat (x.txf.get n)]
    ses := x.transmitting n }

/-- R183: before the last octet, the hand-off after a transmit completion loads the next one. -/
theorem handOff_txDone {e : Engine} {x : Session} {n : Nat} {q : Port} (he : e.ses = x.transmitting n) (hn : n < 4)
    (hp : x.phase = .tx) (hq : e.ports[x.portSel.toNat]? = some q) :
    handOff (e.txDone x.portSel.toNat) = e.sendOctet x q (n + 1) := by
  have hlt : x.portSel.toNat < e.ports.length := (List.getElem?_eq_some_iff.mp hq).1
  have hmod : (n + 1) % 8 = n + 1 := by omega
  have hloaded : (BitVec.ofNat 3 (n + 1)).toNat < 5 := by rw [BitVec.toNat_ofNat]; omega
  rw [txDone_transmitting he hn.le hp hq,
    handOff_loads _ { q with txBusy := false } (List.getElem?_set_self hlt) hp hloaded rfl]
  simp [hmod, Engine.sendOctet, Session.transmitting, BitVec.ofNat_add]

/-- R188: with an octet in the transmitter and its time not over a session is settled. -/
theorem settledOk_sendOctet (e : Engine) {x : Session} {n : Nat} {q : Port} (hn : n ≤ 4) (hp : x.phase = .tx)
    (hlt : x.portSel.toNat < e.ports.length) (hcnt : x.cnt.toNat < x.wrT.toNat) :
    SettledOk (e.sendOctet x q n).ports (e.sendOctet x q n).ses := by
  have hsent : (BitVec.ofNat 3 n).toNat = n := by rw [BitVec.toNat_ofNat]; omega
  have hloaded : (BitVec.ofNat 3 (n + 1)).toNat = n + 1 := by rw [BitVec.toNat_ofNat]; omega
  refine ⟨fun _ => ⟨hsent.trans_lt (by omega), hcnt⟩, fun _ => ⟨_, List.getElem?_set_self hlt, rfl, .inr ⟨?_, ?_⟩⟩,
    fun hrx => absurd (hp.symm.trans hrx) nofun⟩
  · exact hloaded.trans (congrArg (· + 1) hsent.symm)
  · exact (congrArg x.txf.get hsent).symm

/-- R183: before the last octet, the `Settle` of a transmit completion loads the next one. -/
theorem settle_txDone_loads {e : Engine} {x : Session} {n : Nat} {q : Port} (he : e.ses = x.transmitting n) (hn : n < 4)
    (hp : x.phase = .tx) (hq : e.ports[x.portSel.toNat]? = some q) (hcnt : x.cnt.toNat < x.wrT.toNat) :
    settle (e.txDone x.portSel.toNat) = e.sendOctet x q (n + 1) := by
  have hload := handOff_txDone he hn hp hq
  have hactive : (e.txDone x.portSel.toNat).ses.phase ≠ .idle := by
    rw [txDone_transmitting he hn.le hp hq]
    simp [hp]
  rw [settle_eq_handOff hactive, hload]
  rw [hload]
  exact settledOk_sendOctet e hn hp (List.getElem?_eq_some_iff.mp hq).1 hcnt

/-- The record in phase RX of a transaction whose request has been sent, with `n` octets collected into `f` (R186). -/
def Session.collecting (x : Session) (n : Nat) (f : Frame) : Session :=
  { x with
    txLoaded := 5#3, txSent := 5#3, phase := .rx, cnt := 0#16
    rxcnt := BitVec.ofNat 3 n, rxf := f }

/-- R186: the `Settle` of the last octet's transmit completion starts the read phase. -/
theorem settle_txDone_ends {e : Engine} {x : Session} {q : Port} (he : e.ses = x.transmitting 4) (hp : x.phase = .tx)
    (hq : e.ports[x.portSel.toNat]? = some q) (hrx : x.rxcnt = 0#3) (hrdT : 0 < x.rdT.toNat) :
    settle (e.txDone x.portSel.toNat) =
      { e with
        ports := e.ports.set x.portSel.toNat { q with txBusy := false }
        ses := x.collecting 0 x.rxf } := by
  have hlt : x.portSel.toNat < e.ports.length := (List.getElem?_eq_some_iff.mp hq).1
  have hto : ¬x.rdT ≤ 0#16 := by bv_omega
  rw [txDone_transmitting he le_rfl hp hq, settle_busy _ (by simp [hp]),
    handOff_waits _ { q with txBusy := false } (List.getElem?_set_self hlt) fun h => absurd h.1 (lt_irrefl 5)]
  simp [writePhaseEnd, phaseOutcome, hp, hrx, hto, Session.collecting]

/-- One transmit completion before the last octet's. -/
theorem reaches_next_octet {s : State} {k : Nat} {x : Session} {n : Nat} (hs : s.Inv)
    (hk : s.sessions[k]? = some (x.transmitting n)) (hn : n < 4) (hp : x.phase = .tx) :
    ∃ t, s.Reaches t [.txDone x.portSel.toNat] k (x.transmitting (n + 1))
      [.txChar x.portSel.toNat (x.txf.get (n + 1))] := by
  obtain ⟨-, hcnt⟩ := (hs.settled_ok k _ hk).tx_bounds hp
  obtain ⟨q, hq, hb, -⟩ := (hs.settled_ok k _ hk).tx_busy hp
  have hstep := stepEvent_txDone hs hk ((hs.session_ok k _ hk).open_of_tx hp) hq hb
  have hsettle := settle_txDone_loads (e := s.engine k (x.transmitting n)) rfl hn hp hq hcnt
  exact ⟨_, hs.reaches_of_step hk (hstep.trans (congrArg (Host.Outcome.next <| s.withEngine k ·) hsettle)) rfl⟩

/-- The first `n` transmit completions, `n` at most 4: each loads the octet after it. -/
theorem reaches_octet {s : State} {k : Nat} {x : Session} (hs : s.Inv) (hk : s.sessions[k]? = some (x.transmitting 0))
    (hp : x.phase = .tx) (n : Nat) (hn : n ≤ 4) :
    ∃ t, s.Reaches t (List.replicate n (.txDone x.portSel.toNat)) k (x.transmitting n)
      ((List.range n).map fun i => .txChar x.portSel.toNat (x.txf.get (i + 1))) := by
  induction n with
  | zero => exact ⟨s, .refl hs hk⟩
  | succ n ih =>
    obtain ⟨t, ht⟩ := ih (by omega)
    obtain ⟨u, hu⟩ := reaches_next_octet ht.inv ht.record hn hp
    rw [List.replicate_succ', List.range_succ, List.map_append]
    exact ⟨u, ht.trans hu⟩

/-- The five transmit completions: octets 1 to 4 are sent and the read phase starts. -/
theorem reaches_read_phase {s : State} {k : Nat} {x : Session} (hs : s.Inv)
    (hk : s.sessions[k]? = some (x.transmitting 0)) (hp : x.phase = .tx) (hrx : x.rxcnt = 0#3) :
    ∃ t, s.Reaches t (List.replicate 5 (.txDone x.portSel.toNat)) k (x.collecting 0 x.rxf)
      ([x.txf.b1, x.txf.b2, x.txf.b3, x.txf.b4].map (.txChar x.portSel.toNat)) := by
  obtain ⟨t, ht⟩ := reaches_octet hs hk hp 4 le_rfl
  have hok := ht.inv.session_ok k _ ht.record
  obtain ⟨q, hq, hb, -⟩ := (ht.inv.settled_ok k _ ht.record).tx_busy hp
  have hstep := stepEvent_txDone ht.inv ht.record (hok.open_of_tx hp) hq hb
  have hsettle := settle_txDone_ends (e := t.engine k (x.transmitting 4)) rfl hp hq hrx hok.rdT_pos
  have hlast := ht.inv.reaches_of_step (out := []) ht.record
    (hstep.trans (congrArg (Host.Outcome.next <| t.withEngine k ·) hsettle)) (List.append_nil _).symm
  exact ⟨_, ht.trans hlast⟩

/-! ### The five characters -/

/-- The step of a character on the port that session `k` has open (R180). -/
theorem stepEvent_rxChar {s : State} (hs : s.Inv) {k : Nat} {x : Session} (hk : s.sessions[k]? = some x)
    (ho : x.isOpen = true) (b : Byte) (ferr : Bool) :
    stepEvent (.rxChar x.portSel.toNat b ferr) s =
      .next (s.withEngine k (settle (receiveOctet b ferr (s.engine k x)))) := by
  obtain ⟨q, hq, hown, howner⟩ := (hs.session_ok k x hk).holds_port ho
  have hevent : rxCharEvent x.portSel.toNat b ferr s =
      .next (s.withEngine k (receiveOctet b ferr (s.engine k x))) := by
    rw [← State.onSession_some k _ s x hk, rxCharEvent, hq]
    simp [hown, howner]
  have hgo := receiveOctet_goesTo b ferr (hs.coherent.engine_sound hk)
  have hparams : (receiveOctet b ferr (s.engine k x)).params = s.params := by rw [receiveOctet_eq]; rfl
  rw [stepEvent, hevent, thenSettle, hs.settleAll_withEngine hk hgo hparams]

/-- R180: a good character in the read phase is the next octet of the response. -/
theorem receiveOctet_collecting {e : Engine} {x : Session} {n : Nat} {f : Frame} (he : e.ses = x.collecting n f)
    (hn : n ≤ 4) (b : Byte) : receiveOctet b false e = { e with ses := x.collecting (n + 1) (f.put n b) } := by
  have hn8 : n % 8 = n := by omega
  have hn5 : n < 5 := by omega
  rw [receiveOctet_eq]
  simp [he, Session.collecting, hn8, hn5, BitVec.ofNat_add]

/-- A character before the fifth: the read phase goes on. -/
theorem reaches_next_character {s : State} {k : Nat} {x : Session} {n : Nat} {f : Frame} (hs : s.Inv)
    (hk : s.sessions[k]? = some (x.collecting n f)) (hn : n < 4) (b : Byte) :
    ∃ t, s.Reaches t [.rxChar x.portSel.toNat b false] k (x.collecting (n + 1) (f.put n b)) [] := by
  have hok := hs.session_ok k _ hk
  have hstep := stepEvent_rxChar hs hk (hok.busy_open (hok.busy_iff.mpr nofun)) b false
  have hreceive := receiveOctet_collecting (e := s.engine k (x.collecting n f)) rfl hn.le b
  have hsettled : SettledOk s.ports (x.collecting (n + 1) (f.put n b)) := by
    refine ⟨nofun, nofun, fun _ => ⟨?_, hok.rdT_pos, rfl, rfl⟩⟩
    change (BitVec.ofNat 3 (n + 1)).toNat < 5
    rw [BitVec.toNat_ofNat]
    omega
  have hsettle : settle (receiveOctet b false (s.engine k (x.collecting n f))) =
      s.engine k (x.collecting (n + 1) (f.put n b)) := hreceive ▸ settle_settled hsettled
  exact ⟨_, hs.reaches_of_step hk (hstep.trans (congrArg (Host.Outcome.next <| s.withEngine k ·) hsettle))
    (List.append_nil _).symm⟩

/-- `f` with octets `n` on replaced by those of `bs`. -/
def Frame.fill (f : Frame) (n : Nat) (bs : List Byte) : Frame :=
  match bs with
  | [] => f
  | b :: bs => (f.put n b).fill (n + 1) bs

/-- Characters before the fifth are collected in order. -/
theorem reaches_collected {k : Nat} {x : Session} (bs : List Byte) {s : State} {n : Nat} {f : Frame} (hs : s.Inv)
    (hk : s.sessions[k]? = some (x.collecting n f)) (hn : n + bs.length ≤ 4) :
    ∃ t, s.Reaches t (bs.map fun b => .rxChar x.portSel.toNat b false) k
      (x.collecting (n + bs.length) (f.fill n bs)) [] := by
  induction bs generalizing s n f with
  | nil => exact ⟨s, .refl hs hk⟩
  | cons b bs ih =>
    rw [List.length_cons] at hn
    obtain ⟨t, ht⟩ := reaches_next_character hs hk (by omega) b
    obtain ⟨u, hu⟩ := ih ht.inv ht.record (by omega)
    rw [List.length_cons, Nat.add_comm bs.length, ← Nat.add_assoc]
    exact ⟨u, ht.trans hu⟩

/-- `y` is the record that the end of a transaction leaves of `x`, whose response is collected: judged by the checksum
(R223). -/
structure Session.Judged (alg : ChecksumAlg) (x y : Session) : Prop where
  busy : y.busy = false
  done : y.done = true
  rxf : y.rxf = x.rxf
  outcome : if x.rxf.b4 = ck alg x.rxf.b0 x.rxf.b1 x.rxf.b2 x.rxf.b3 then
      y.err = .noError ∧ y.respAddr = x.rxf.b0 ∧ y.respCmd = x.rxf.b1 ∧ y.respData = x.rxf.b2 ++ x.rxf.b3 ∧
        y.respOp = x.lastOp
    else y.err = .checksumMismatch ∧ y.respAddr = x.respAddr ∧ y.respCmd = x.respCmd ∧ y.respData = x.respData ∧
      y.respOp = x.respOp

/-- R223: the `Settle` after the fifth octet, of an operation that is no guard exit. -/
theorem settle_judges {e : Engine} (hp : e.ses.phase = .rx) (hcnt : e.ses.rxcnt = 5#3) (h31 : e.ses.lastOp ≠ 0x31#8)
    (h32 : e.ses.lastOp ≠ 0x32#8) :
    e.ses.Judged e.params.checksumAlg (settle e).ses ∧ (settle e).trace = e.trace := by
  obtain ⟨hmatch, hmismatch⟩ := (readPhaseEndComparesTheChecksum e hp hcnt).1 h31 h32
  by_cases hck : e.ses.rxf.b4 = ck e.params.checksumAlg e.ses.rxf.b0 e.ses.rxf.b1 e.ses.rxf.b2 e.ses.rxf.b3
  · rw [hmatch hck]
    exact ⟨⟨rfl, rfl, rfl, by rw [if_pos hck]; exact ⟨rfl, rfl, rfl, rfl, rfl⟩⟩, rfl⟩
  · rw [hmismatch hck]
    exact ⟨⟨rfl, rfl, rfl, by rw [if_neg hck]; exact ⟨rfl, rfl, rfl, rfl, rfl⟩⟩, rfl⟩

/-- The fifth character ends the transaction. -/
theorem reaches_end {s : State} {k : Nat} {x : Session} {f : Frame} (hs : s.Inv)
    (hk : s.sessions[k]? = some (x.collecting 4 f)) (h31 : x.lastOp ≠ 0x31#8) (h32 : x.lastOp ≠ 0x32#8) (b : Byte) :
    ∃ t y, s.Reaches t [.rxChar x.portSel.toNat b false] k y [] ∧
      (x.collecting 5 (f.put 4 b)).Judged s.params.checksumAlg y := by
  have hok := hs.session_ok k _ hk
  have hstep := stepEvent_rxChar hs hk (hok.busy_open (hok.busy_iff.mpr nofun)) b false
  have hreceive := receiveOctet_collecting (e := s.engine k (x.collecting 4 f)) rfl le_rfl b
  obtain ⟨hjudged, htrace⟩ :=
    settle_judges (e := s.engine k (x.collecting 5 (f.put 4 b))) rfl rfl h31 h32
  exact ⟨_, _, hs.reaches_of_step hk (hstep.trans (congrArg (Host.Outcome.next <| s.withEngine k <| settle ·) hreceive))
    (htrace.trans (List.append_nil _).symm), hjudged⟩

/-- The five characters of the response: the fifth ends the transaction. -/
theorem reaches_judged {s : State} {k : Nat} {x : Session} {f : Frame} (hs : s.Inv)
    (hk : s.sessions[k]? = some (x.collecting 0 f)) (h31 : x.lastOp ≠ 0x31#8) (h32 : x.lastOp ≠ 0x32#8)
    (b0 b1 b2 b3 b4 : Byte) :
    ∃ t y, s.Reaches t ([b0, b1, b2, b3, b4].map fun b => .rxChar x.portSel.toNat b false) k y [] ∧
      (x.collecting 5 ⟨b0, b1, b2, b3, b4⟩).Judged s.params.checksumAlg y := by
  obtain ⟨t, ht⟩ := reaches_collected [b0, b1, b2, b3] hs hk le_rfl
  obtain ⟨u, y, hu, hy⟩ := reaches_end ht.inv ht.record h31 h32 b4
  exact ⟨u, y, ht.trans hu, ht.params ▸ hy⟩

/-! ### The whole transaction -/

/-- The step of a CTRL write that starts a transaction on session `k`: the session alone is settled (R11, R105). -/
theorem step_of_launch {s u : State} {k : Nat} {x y : Session} {a : Addr} {w : Word} {rest : List Input} {i : Instr}
    (hs : s.Inv) (hk : s.sessions[k]? = some x) (hin : s.inputs = .host (.write a w) :: rest)
    (ha : a.toNat / 4 = 16 * k) (hdec : decode w = .ok i)
    (hexec : exec i { s with inputs := rest, sel := k } = .next u) (hy : u.sessions[k]? = some y) :
    step s = .next (u.withEngine k (settle (u.engine k y))) := by
  have hlt : k < s.sessions.length := (List.getElem?_eq_some_iff.mp hk).1
  have hs' : State.Inv { s with inputs := rest } := hs.of_records_eq rfl rfl
  have hsel : selectReg s.sessions.length a = .session k .ctrl := selectReg_ctrl _ k a hlt hs.sessions_count.2 ha
  have heffect : EventEffect { s with inputs := rest } (.host (.write a w)) u := .command a w k i u hsel hdec hexec
  have hrests (j : Nat) (z : Session) (hne : j ≠ k) (hz : u.sessions[j]? = some z) : u.Rests j z := by
    obtain ⟨body, hlaunch⟩ := exec_is_launch i
    have hu := Host.Outcome.next.inj ((hlaunch _).symm.trans hexec)
    have hj : s.sessions[j]? = some z := by
      rwa [← hu, State.launch, State.onSession_other _ _ _ _ hne] at hz
    exact heffect.rests_of_sessionWrite hs'.coherent hsel hne (hs'.rests hj)
  rw [stepRunsTheDecodedInstruction s k a w rest i hin hlt hs.sessions_count.2 ha hdec, hexec, thenSettle,
    (heffect.coherent hs'.coherent).settleAll_eq hy hrests]

/-- Settles O59: the launching step by the `Settle` of the session that starts; the ten events as a run of the five
transmit completions and a run of the five characters. -/
theorem transactionCompletesInTenEvents : Obligations.TransactionCompletesInTenEvents := by
  intro s k x hs hk
  refine ⟨fun a w rest i u y q hin ha hdec hb hexec hy hp hq => ?launch, fun b0 b1 b2 b3 b4 => ?events⟩
  case launch =>
    have hok := hs.session_ok k x hk
    obtain ⟨cmd, data, rfl, rfl⟩ := exec_of_tx ⟨hk, hb, hok.idle hb⟩ hexec hy hp
    rw [step_of_launch hs hk hin ha hdec hexec hy]
    refine ⟨fun hidle => ?_, fun hbusy => ?_⟩
    · rw [settle_started rfl hq hidle hok.wrT_pos]
      rfl
    · rw [settle_settled (settledOk_started hq hbusy hok.wrT_pos)]
      exact congrArg Host.Outcome.next (State.setSession_self hy)
  case events =>
    intro hp hloaded hsent hrx h31 h32
    have hx : x = x.transmitting 0 := by
      simp [Session.transmitting, ← hloaded, ← hsent]
    obtain ⟨t, ht⟩ := reaches_read_phase hs (hx ▸ hk) hp hrx
    obtain ⟨u, y, hu, hy⟩ := reaches_judged ht.inv ht.record h31 h32 b0 b1 b2 b3 b4
    have hall := ht.trans hu
    refine ⟨u.withInputs [], y, ?_, hall.record, hy.busy, hy.done, hy.rxf, ?_, ht.params ▸ hy.outcome⟩
    · exact (congrArg (after s) (List.append_nil _).symm).trans (hall.run [])
    · exact hall.trace

end Sys2Proof.Machine

/-! PROOFS. The lifecycle guard (R281 to R286): GENTER's two forms outside a scope, and inside one the exits, which send
the RF-disable command or finish the guard in their launching step. -/

namespace Sys2Proof.Machine

/-! ### The end of the guard's scope -/

/-- R285: on an IDLE Open session the guard's finish is `End` with NONE, its port released. -/
theorem guardFinish_eq_endOp_of_open {e : Engine} {q : Port} (hidle : e.ses.phase = .idle) (ho : e.ses.isOpen = true)
    (hq : e.ports[e.ses.portSel.toNat]? = some q) :
    guardFinish e =
      endOp .noError
        { e with
          ports := e.ports.set e.ses.portSel.toNat { q with owned := false, owner := 0#3 }
          ses := { e.ses with isOpen := false, guardActive := false } } := by
  rw [guardFinish_of_open ho hq, endOp_idle]
  · rfl
  · exact hidle

/-- R285: on an IDLE Closed session the guard's finish is `End` with NONE and ends the scope alone. -/
theorem guardFinish_eq_endOp_of_closed {e : Engine} (hidle : e.ses.phase = .idle) (ho : e.ses.isOpen = false) :
    guardFinish e = endOp .noError { e with ses := { e.ses with guardActive := false } } := by
  rw [guardFinish, closeAction_of_closed ho, endOp_idle]
  exact hidle

/-- `body`, launched with `op` on a ready session, sends no frame: it writes `g` to GDIS and finishes the guard. -/
def FinishesGuard (op : Byte) (body : Engine → Engine) (g : Option ErrCode) (s : State) (x : Session) : Prop :=
  body (s.engine s.sel { x with done := false, err := .noError, lastOp := op }) =
    guardFinish (s.engine s.sel { x with gdis := g, done := false, err := .noError, lastOp := op })

theorem FinishesGuard.launch_of_open {op : Byte} {body : Engine → Engine} {g : Option ErrCode} {s : State}
    {x : Session} (h : FinishesGuard op body g s x) (hready : Ready s x) (ho : x.isOpen = true) {q : Port}
    (hq : s.ports[x.portSel.toNat]? = some q) :
    s.launch op body =
      (s.setSession s.sel { x with
        gdis := g, isOpen := false, guardActive := false, done := true, err := .noError, lastOp := op }).setPort
          x.portSel.toNat { q with owned := false, owner := 0#3 } := by
  have ⟨_, _, hidle⟩ := hready
  rw [launch_of_endOp_port op hready (h.trans (guardFinish_eq_endOp_of_open hidle ho hq)) rfl rfl]
  rfl

theorem FinishesGuard.launch_of_closed {op : Byte} {body : Engine → Engine} {g : Option ErrCode} {s : State}
    {x : Session} (h : FinishesGuard op body g s x) (hready : Ready s x) (ho : x.isOpen = false) :
    s.launch op body =
      s.setSession s.sel { x with
        gdis := g, guardActive := false, done := true, err := .noError, lastOp := op } := by
  have ⟨_, _, hidle⟩ := hready
  rw [launch_of_endOp op hready (h.trans (guardFinish_eq_endOp_of_closed hidle ho)) rfl rfl]
  rfl

/-- Settles O32: such a transaction is a guard exit's (R306). -/
theorem guardExitSuppressesTheOutcome : Obligations.GuardExitSuppressesTheOutcome :=
  fun _ _ code hactive hop ho hq => endOp_of_exiting code ⟨hactive, (isGuardExit_iff _).mpr hop⟩ ho hq

/-! ### GEXITN and GEXITE -/

/-- R282, R283: the two exits differ in their OP alone. -/
theorem exec_guardExit {i : Instr} (hi : i = .gexitn ∨ i = .gexite) (s : State) :
    exec i s = .next (s.launch (opOf i) guardExitBody) := by
  rcases hi with rfl | rfl <;> rfl

theorem guardExitBody_of_scope {e : Engine} (hg : e.ses.guardActive = true) : guardExitBody e = guardDisable e :=
  if_neg (by simp [hg])

/-- R282: an unmapped RF-disable command is the first outcome known without I/O. -/
theorem guardDisable_of_unmapped {e : Engine} (hw : wireOctet e.params.opcodeMap .operationW = none) :
    guardDisable e = guardSkips .unsupported e := by
  rcases guardDisable_cases e with ⟨-, h⟩ | ⟨c, hc, -⟩
  · exact h
  · exact absurd (hw.symm.trans hc) nofun

/-- R282, R314: on a Closed session the attempt sends nothing; UNSUPPORTED comes before NOT_OPEN. -/
theorem guardDisable_of_closed {e : Engine} (ho : e.ses.isOpen = false) :
    guardDisable e =
      guardSkips (if wireOctet e.params.opcodeMap .operationW = none then .unsupported else .notOpen) e := by
  rcases guardDisable_cases e with ⟨hw, h⟩ | ⟨c, hc, ⟨-, h⟩ | ⟨hopen, -⟩⟩
  · rw [h, if_pos hw]
  · rw [h, if_neg (by simp [hc])]
  · exact absurd (ho.symm.trans hopen) nofun

/-- R282: on an Open session the attempt is the transaction of RFOFF. -/
theorem guardDisable_of_open {e : Engine} {cmd : Byte} (ho : e.ses.isOpen = true)
    (hw : wireOctet e.params.opcodeMap .operationW = some cmd) : guardDisable e = startTxn cmd rfDisableData e := by
  simp [guardDisable, hw, ho]

/-- Settles O30: `GuardDisable`'s two outcomes without I/O, each followed by the guard's finish. -/
theorem guardExitWithoutAFrameRecordsWhy : Obligations.GuardExitWithoutAFrameRecordsWhy := by
  intro s x i hi hready hguard
  rw [exec_guardExit hi]
  refine ⟨fun q hunmapped hopen hq => ?unmapped, fun hclosed => ?closed⟩
  case unmapped =>
    have hfinish : FinishesGuard (opOf i) guardExitBody (some .unsupported) s x :=
      (guardExitBody_of_scope hguard).trans (guardDisable_of_unmapped hunmapped)
    rw [hfinish.launch_of_open hready hopen hq]
  case closed =>
    have hfinish : FinishesGuard (opOf i) guardExitBody
        (some (if wireOctet s.params.opcodeMap .operationW = none then .unsupported else .notOpen)) s x :=
      (guardExitBody_of_scope hguard).trans (guardDisable_of_closed hclosed)
    rw [hfinish.launch_of_closed hready hclosed]

/-- Settles O29: both exits start `GuardDisable`'s transaction. -/
theorem guardExitSendsRfDisable : Obligations.GuardExitSendsRfDisable := by
  intro s x cmd hready hguard hopen hcmd
  have hsends (i : Instr) (hi : i = .gexitn ∨ i = .gexite) :
      exec i s = .next (s.setSession s.sel (started s.params.checksumAlg i cmd 0#16 x)) := by
    rw [exec_guardExit hi, launch_of_startTxn i hready
      ((guardExitBody_of_scope hguard).trans (guardDisable_of_open hopen hcmd))]
    rfl
  exact ⟨hsends _ (.inl rfl), hsends _ (.inr rfl)⟩

/-! ### GEXITF -/

theorem exec_gexitf (s : State) : exec .gexitf s = .next (s.launch (opOf .gexitf) gexitfBody) := rfl

theorem gexitfBody_of_scope {e : Engine} (hg : e.ses.guardActive = true) :
    gexitfBody e = guardFinish { e with ses := { e.ses with gdis := none } } :=
  if_neg (by simp [hg])

/-- Settles O31: the guard's finish with "not attempted" in GDIS, on an Open session and on a Closed one. -/
theorem faultExitClosesWithoutAFrame : Obligations.FaultExitClosesWithoutAFrame := by
  intro s x hready hguard
  have hfinish : FinishesGuard (opOf .gexitf) gexitfBody none s x := gexitfBody_of_scope hguard
  rw [exec_gexitf]
  refine ⟨fun q hopen hq => ?isOpen, fun hclosed => ?closed⟩
  case isOpen =>
    rw [hfinish.launch_of_open hready hopen hq]
    rfl
  case closed =>
    rw [hfinish.launch_of_closed hready hclosed]
    rfl

/-! ### GENTER -/

/-- R173: a port with no cause for a failed open is present, free and enabled. -/
theorem acquirable_of_no_cause {ports : List Port} {p : Nat} {q : Port} (hq : ports[p]? = some q)
    (hc : connectionCause ports p = none) : q.present = true ∧ q.owned = false ∧ q.enable = true := by
  simp only [connectionCause, hq] at hc
  split_ifs at hc with hpr how hen
  exact ⟨Bool.eq_true_of_not_eq_false hpr, Bool.eq_false_of_not_eq_true how, Bool.eq_true_of_not_eq_false hen⟩

theorem genterBody_of_open {e : Engine} (hg : e.ses.guardActive = false) (ho : e.ses.isOpen = true) :
    genterBody e = endOp .noError { e with ses := { e.ses with connCause := .noCause, guardActive := true } } := by
  simp [genterBody, hg, openAction_of_open ho]

theorem genterBody_of_free {e : Engine} {q : Port} (hg : e.ses.guardActive = false) (ho : e.ses.isOpen = false)
    (hq : e.ports[e.ses.portSel.toNat]? = some q) (hc : connectionCause e.ports e.ses.portSel.toNat = none) :
    genterBody e =
      endOp .noError
        { e with
          ports := e.ports.set e.ses.portSel.toNat { q with owned := true, owner := BitVec.ofNat 3 e.idx }
          ses := { e.ses with isOpen := true, connCause := .noCause, guardActive := true } } := by
  obtain ⟨hpresent, hfree, henabled⟩ := acquirable_of_no_cause hq hc
  simp [genterBody, hg, openAction_of_free ho hq hpresent hfree henabled]

/-- Settles O27: the two forms of `OpenAction` that succeed, each with the scope opened. -/
theorem guardEntryOpensTheScope : Obligations.GuardEntryOpensTheScope := by
  intro s x hready hguard
  rw [exec_genter]
  refine ⟨fun q hclosed hq hcause => ?free, fun hopen => ?isOpen⟩
  case free =>
    rw [launch_of_endOp_port _ hready (genterBody_of_free hguard hclosed hq hcause) rfl rfl]
    rfl
  case isOpen =>
    rw [launch_of_endOp _ hready (genterBody_of_open hguard hopen) rfl rfl]
    rfl

end Sys2Proof.Machine

/-! PROOFS. Commands that are refused or that fail before any I/O (R224, R304, R305, R310 to R314): each completes in its
launching step and changes only DONE, ERR and LAST_OP, and one that meets BUSY sets OVERRUN alone. -/

namespace Sys2Proof.Machine

/-! ### Refused while BUSY -/

theorem launchOn_of_busy (op : Byte) (body : Engine → Engine) {e : Engine} (hb : e.ses.busy = true) :
    launchOn op body e = { e with ses := { e.ses with overrun := true } } := if_pos hb

/-- R313: a launch on a BUSY session sets OVERRUN, whatever the body. -/
theorem State.launch_busy (op : Byte) (body : Engine → Engine) {s : State} {x : Session}
    (hx : s.sessions[s.sel]? = some x) (hb : x.busy = true) :
    s.launch op body = s.setSession s.sel { x with overrun := true } := by
  rw [State.launch, State.onSession_some _ _ s x hx, launchOn_of_busy op body hb]
  rfl

/-- R221: the launch of any word, reserved OP or not, is the launch of some body. -/
theorem launchWord_is_launch (k : Nat) (w : Word) (s : State) :
    ∃ (op : Byte) (body : Engine → Engine), launchWord k w s = .next (State.launch op body { s with sel := k }) := by
  cases hdec : decode w with
  | ok i =>
    obtain ⟨body, hbody⟩ := exec_is_launch i
    exact ⟨opOf i, body, (launchWord_ok k w i s hdec).trans (hbody _)⟩
  | error err =>
    obtain ⟨op⟩ := err
    exact ⟨op, endOp .illegalOp, launchWord_reserved k w op s hdec⟩

/-- Settles O10: every word's launch stops at BUSY. -/
theorem busySessionRefusesEveryCommand : Obligations.BusySessionRefusesEveryCommand := by
  intro s x w hx hbusy
  obtain ⟨op, body, hlaunch⟩ := launchWord_is_launch s.sel w s
  rw [hlaunch]
  exact congrArg Host.Outcome.next (State.launch_busy op body hx hbusy)

/-! ### Reserved OP values -/

/-- Settles O9: the body of a reserved OP is `End` with ILLEGAL_OP. -/
theorem reservedOpCompletesWithIllegalOp : Obligations.ReservedOpCompletesWithIllegalOp := by
  intro s x w hready hdec
  rw [launchWord_reserved _ w _ s hdec]
  exact congrArg Host.Outcome.next (launch_of_endOp _ hready rfl rfl rfl)

/-! ### Operations that fail before any I/O -/

/-- R306: an operation whose body, on the accepted record, is `End` with `c` completes with `c`. -/
theorem completesWith_of_endOp {i : Instr} {c : ErrCode} {body : Engine → Engine} {s : State} {x : Session}
    (hexec : exec i s = .next (s.launch (opOf i) body))
    (hbody : body (s.engine s.sel { x with done := false, err := .noError, lastOp := opOf i }) =
      endOp c (s.engine s.sel { x with done := false, err := .noError, lastOp := opOf i })) :
    CompletesWith i c s x := by
  intro hready
  rw [hexec, launch_of_endOp _ hready hbody rfl rfl]
  rfl

/-! ### The checks of `WireOp` -/

/-- R224, R305: a failed range check comes before the map and OPEN. -/
theorem wireOp_of_invalid (n : WireName) (d : Data) (e : Engine) : wireOp n d false e = endOp .validation e := if_pos rfl

/-- R224, R310: an unmapped operation comes before OPEN. -/
theorem wireOp_of_unmapped {n : WireName} {d : Data} {e : Engine} (hw : wireOctet e.params.opcodeMap n = none) :
    wireOp n d true e = endOp .unsupported e := by
  simp [wireOp, hw]

/-- R224, R304: a mapped operation on a Closed session. -/
theorem wireOp_of_closed {n : WireName} {d : Data} {c : Byte} {e : Engine}
    (hw : wireOctet e.params.opcodeMap n = some c) (ho : e.ses.isOpen = false) :
    wireOp n d true e = endOp .notOpen e := by
  simp [wireOp, hw, ho]

/-- Settles O24: each write's check fails, and `WireOp` looks no further. -/
theorem outOfRangeDataIsRefused : Obligations.OutOfRangeDataIsRefused := by
  intro s x d
  refine ⟨fun hd => ?permille, fun hd => ?mode⟩
  case permille =>
    have hcheck : permilleInRange d = false := decide_eq_false (by omega)
    have hbody (n : WireName) (e : Engine) : wireOp n d (permilleInRange d) e = endOp .validation e := by
      rw [hcheck, wireOp_of_invalid]
    exact ⟨completesWith_of_endOp rfl (hbody _ _), completesWith_of_endOp rfl (hbody _ _),
      completesWith_of_endOp rfl (hbody _ _), completesWith_of_endOp rfl (hbody _ _)⟩
  case mode =>
    have hcheck : modeInSet d = false := decide_eq_false (by omega)
    exact completesWith_of_endOp (body := wireOp .modeW d (modeInSet d)) rfl (by rw [hcheck, wireOp_of_invalid])

/-- R126, R224: a typed operation that passes its check is `WireOp` of its wire operation, with data that may depend on
the parameters. -/
theorem exec_of_wireNameOf {i : Instr} {n : WireName} (hn : wireNameOf i = some n) (hcheck : PassesCheck i) :
    ∃ data : Params → Data,
      ∀ s, exec i s = .next (s.launch (opOf i) fun e => wireOp n (data e.params) true e) := by
  cases i with
  | wrsp d | wrlu d | wrli d | wrlp d =>
    cases hn
    have hvalid : permilleInRange d = true := decide_eq_true hcheck
    exact ⟨fun _ => d, fun s => by rw [← hvalid]; rfl⟩
  | wrmode d =>
    cases hn
    have hvalid : modeInSet d = true := decide_eq_true hcheck
    exact ⟨fun _ => d, fun s => by rw [← hvalid]; rfl⟩
  | rdsp | rdlu | rdli | rdlp | rdmode | rdoper | rdstat | rdapwr | rdavol | rdacur | rdafrq =>
    cases hn
    exact ⟨fun _ => readData, fun _ => rfl⟩
  | rfon =>
    cases hn
    exact ⟨fun _ => rfEnableData, fun _ => rfl⟩
  | rfoff =>
    cases hn
    exact ⟨fun _ => rfDisableData, fun _ => rfl⟩
  | rsterr =>
    cases hn
    exact ⟨fun p => p.resetErrorData, fun _ => rfl⟩
  | openSession | closeSession | send | encode | decode | genter | gexitn | gexite | gexitf => cases hn

/-- Settles O25: `WireOp` with its check passed and no octet. -/
theorem unmappedOperationIsUnsupported : Obligations.UnmappedOperationIsUnsupported := by
  intro s x i n hn hcheck hunmapped
  obtain ⟨data, hexec⟩ := exec_of_wireNameOf hn hcheck
  exact completesWith_of_endOp (hexec s) (wireOp_of_unmapped hunmapped)

/-- Settles O26: `WireOp` with its check passed and its octet found. -/
theorem closedSessionGivesNotOpen : Obligations.ClosedSessionGivesNotOpen := by
  intro s x i n c hn hcheck hmapped hclosed
  obtain ⟨data, hexec⟩ := exec_of_wireNameOf hn hcheck
  exact completesWith_of_endOp (hexec s) (wireOp_of_closed hmapped hclosed)

/-! ### The guard's mismatches -/

theorem genterBody_of_scope {e : Engine} (hg : e.ses.guardActive = true) : genterBody e = endOp .guardState e :=
  if_pos hg

theorem guardExitBody_of_no_scope {e : Engine} (hg : e.ses.guardActive = false) :
    guardExitBody e = endOp .guardState e := if_pos hg

theorem gexitfBody_of_no_scope {e : Engine} (hg : e.ses.guardActive = false) :
    gexitfBody e = endOp .guardState e := if_pos hg

/-- Settles O28: GUARD_ACTIVE is what each of the four bodies looks at first. -/
theorem guardMismatchIsGuardState : Obligations.GuardMismatchIsGuardState := by
  intro s x
  refine ⟨fun hguard => ?nested, fun hguard => ⟨?normal, ?error, ?fault⟩⟩
  case nested => exact completesWith_of_endOp (exec_genter s) (genterBody_of_scope hguard)
  case normal => exact completesWith_of_endOp (exec_guardExit (.inl rfl) s) (guardExitBody_of_no_scope hguard)
  case error => exact completesWith_of_endOp (exec_guardExit (.inr rfl) s) (guardExitBody_of_no_scope hguard)
  case fault => exact completesWith_of_endOp (exec_gexitf s) (gexitfBody_of_no_scope hguard)

end Sys2Proof.Machine

/-! PROOFS. The tick divider (R318, log 12): a period of clock edges is one Tick. -/

namespace Sys2Proof.Machine

/-- A Tick's step answers whatever the divider holds. -/
theorem stepEvent_tick (s : State) : stepEvent .tick s = .next (settleAll (tickEvent s)) := rfl

/-- R318: the clock edge that ends the divider's period is a Tick. -/
theorem stepEvent_clk_of_due {s : State} (h : tickPeriod s.params ≤ s.tickDiv + 1) :
    stepEvent .clk s = stepEvent .tick s := if_pos (decide_eq_true h)

/-- Log 12: any other clock edge moves the divider alone. -/
theorem stepEvent_clk_of_not_due {s : State} (h : s.tickDiv + 1 < tickPeriod s.params) :
    stepEvent .clk s = .next { s with tickDiv := s.tickDiv + 1 } :=
  if_neg (by simpa [tickDue] using h)

/-- R318: a Tick starts the divider anew, so what it held is lost. -/
theorem after_tick_of_tickDiv (s : State) (n : Nat) (es : List Input) :
    after { s with tickDiv := n } (.tick :: es) = after s (.tick :: es) := by
  rw [after_cons_next _ _ _ es (stepEvent_tick s)]
  exact after_cons_next _ _ _ es (stepEvent_tick _)

/-- R318: the clock edges that are left of the divider's period are one Tick. -/
theorem after_clk_to_period (n : Nat) (s : State) (h : s.tickDiv + (n + 1) = tickPeriod s.params) :
    after s (List.replicate (n + 1) .clk) = after s [.tick] := by
  induction n generalizing s with
  | zero =>
    have hdue : stepEvent .clk s = stepEvent .tick s := stepEvent_clk_of_due h.ge
    rw [after_cons_next s _ .tick [] (stepEvent_tick s)]
    exact after_cons_next s _ .clk [] (hdue.trans (stepEvent_tick s))
  | succ n ih =>
    have hstep : stepEvent .clk s = .next { s with tickDiv := s.tickDiv + 1 } := stepEvent_clk_of_not_due (by omega)
    have hleft : s.tickDiv + 1 + (n + 1) = tickPeriod s.params := by omega
    calc after s (List.replicate (n + 2) .clk)
        = after { s with tickDiv := s.tickDiv + 1 } (List.replicate (n + 1) .clk) :=
          after_cons_next s _ .clk _ hstep
      _ = after { s with tickDiv := s.tickDiv + 1 } [.tick] := ih _ hleft
      _ = after s [.tick] := after_tick_of_tickDiv s _ []

/-- Settles O40: the whole period is left. -/
theorem clockPeriodIsOneTick : Obligations.ClockPeriodIsOneTick := by
  intro s hdiv hperiod
  obtain ⟨n, hn⟩ := Nat.exists_eq_add_one_of_ne_zero hperiod.ne'
  rw [hn]
  exact after_clk_to_period n s (by rw [hdiv, Nat.zero_add]; exact hn.symm)

end Sys2Proof.Machine

/-! PROOFS. Reset (R350, R351, R354) and the host's reads (R94, R374). -/

namespace Sys2Proof.Machine

/-! ### A host read -/

/-- What a read shows is a matter of the records and the parameters, not of the events to come (R94). -/
theorem hostRead_withInputs (a : Addr) (s : State) (rest : List Input) :
    hostRead a { s with inputs := rest } =
      { s with inputs := rest, trace := s.trace ++ [.readData a (readReg s a)] } := rfl

/-- Settles O43: a read leaves the records, so every session is still settled. -/
theorem readsChangeNoState : Obligations.ReadsChangeNoState := by
  intro s a rest hinv hin
  have hsettled : settleAll (hostRead a { s with inputs := rest }) = hostRead a { s with inputs := rest } :=
    settleUpTo_eq_self (s := hostRead a { s with inputs := rest }) hinv.settled_ok _
  calc step s = .next (settleAll (hostRead a { s with inputs := rest })) := step_cons s _ rest hin
    _ = .next (hostRead a { s with inputs := rest }) := congrArg Host.Outcome.next hsettled
    _ = _ := congrArg Host.Outcome.next (hostRead_withInputs a s rest)

/-! ### The reset event -/

/-- Settles O42: the three forms of the event, each by its own equation. -/
theorem accessDuringResetIsIgnored : Obligations.AccessDuringResetIsIgnored := fun _ _ _ => ⟨rfl, rfl⟩

/-- R354: whatever the host does meanwhile, Reset leaves the same records; an access can only show something. -/
theorem resetEvent_eq (during : Option BusAccess) (s : State) :
    ∃ out, resetEvent during s = { resetState s with trace := out } := by
  rcases during with - | ⟨a, v⟩ | ⟨a⟩
  case none => exact ⟨s.trace, rfl⟩
  case some.write => exact ⟨s.trace, rfl⟩
  case some.read => exact ⟨s.trace ++ [.readData a 0#32], rfl⟩

/-- R351: the record of each session after Reset. -/
theorem resetState_session {s : State} {k : Nat} {x : Session} (h : (resetState s).sessions[k]? = some x) :
    x = Session.reset s.ports.length k := by
  obtain ⟨j, hj, rfl⟩ := Option.map_eq_some_iff.mp (List.getElem?_map.symm.trans h)
  obtain ⟨hlt, rfl⟩ := List.getElem?_eq_some_iff.mp hj
  rw [List.getElem_range]

/-- R315, R351: no session has DONE after Reset, so `irq` is low. -/
theorem resetState_irq (s : State) : (resetState s).irq = false := by
  refine List.any_eq_false.mpr fun x hx => ?_
  obtain ⟨k, hk⟩ := List.mem_iff_getElem?.mp hx
  rw [resetState_session hk]
  exact Bool.false_ne_true

/-- ID shows the parameters and the counts alone (R71). -/
theorem State.SameBlock.readGlobalReg_id {s t : State} (h : s.SameBlock t) :
    readGlobalReg t .id = readGlobalReg s .id := by
  simp only [readGlobalReg, idWord, h.params, h.sessions, h.ports]

/-! ### The registers of a session after reset -/

/-- CFG as a number (R41): PORT_SEL stands at bit 8. -/
theorem cfgWord_toNat (x : Session) : (cfgWord x).toNat = x.portSel.toNat * 256 + x.devAddr.toNat := by
  have haddr : x.devAddr.toNat < 2 ^ 8 := x.devAddr.isLt
  have hhigh : (0#21 ++ x.portSel).toNat = x.portSel.toNat := (BitVec.toNat_append _ _).trans (by simp)
  calc (cfgWord x).toNat = (0#21 ++ x.portSel).toNat <<< 8 ||| x.devAddr.toNat := BitVec.toNat_append _ _
    _ = x.portSel.toNat <<< 8 + x.devAddr.toNat := by rw [hhigh, Nat.shiftLeft_add_eq_or_of_lt haddr]
    _ = x.portSel.toNat * 256 + x.devAddr.toNat := by rw [Nat.shiftLeft_eq]

/-- R351: session `k` selects port `k` modulo the number of ports, DEV_ADDR is 0. -/
theorem sessionReset_cfg (n k : Nat) :
    readSessionReg (Session.reset n k) .cfg = BitVec.ofNat 32 (k % n % 8 * 256) := by
  apply BitVec.eq_of_toNat_eq
  have hport : (Session.reset n k).portSel.toNat = k % n % 8 := BitVec.toNat_ofNat _ _
  have haddr : (Session.reset n k).devAddr.toNat = 0 := rfl
  rw [readSessionReg, cfgWord_toNat, hport, haddr, BitVec.toNat_ofNat]
  omega

/-- R33: all sessions have one reset value but for PORT_SEL, which CFG alone shows. -/
theorem sessionReset_register (n k : Nat) {r : SessionReg} (h : r ≠ .cfg) :
    readSessionReg (Session.reset n k) r = readSessionReg (Session.reset 1 0) r := by
  cases r
  case cfg => exact absurd rfl h
  all_goals rfl

/-- R351: STAT shows GDIS "not attempted" and nothing else. -/
theorem sessionReset_stat (n k : Nat) : readSessionReg (Session.reset n k) .stat = 0x00F00000#32 :=
  (sessionReset_register n k (r := .stat) (by decide)).trans (by decide)

/-- R351: both timeouts are 1000. -/
theorem sessionReset_tmo (n k : Nat) : readSessionReg (Session.reset n k) .tmo = 0x03E803E8#32 :=
  (sessionReset_register n k (r := .tmo) (by decide)).trans (by decide)

/-- R351: every register of a session but STAT, CFG and TMO reads 0. -/
theorem sessionReset_zero (n k : Nat) {r : SessionReg} (h : r ∉ [SessionReg.stat, .cfg, .tmo]) :
    readSessionReg (Session.reset n k) r = 0#32 := by
  cases r
  case stat => exact absurd h (by decide)
  case cfg => exact absurd h (by decide)
  case tmo => exact absurd h (by decide)
  all_goals exact (sessionReset_register n k (by decide)).trans (by decide)

/-- Settles O41: the event leaves `resetState`, whose records are those of R351. -/
theorem resetSetsEveryRegister : Obligations.ResetSetsEveryRegister := by
  intro s rest during hin
  obtain ⟨out, hout⟩ := resetEvent_eq during { s with inputs := rest }
  have hpop : s.SameBlock { s with inputs := rest } := ⟨rfl, rfl, rfl⟩
  have hblock := hpop.trans (resetEvent_sameBlock during _)
  refine ⟨_, step_cons s _ rest hin, hblock.params, ?inputs, ?divider, ?irq, hblock.sessions,
    hblock.readGlobalReg_id, ?registers, ?ports⟩
  case inputs => rw [hout]; rfl
  case divider => rw [hout]; rfl
  case irq => rw [hout]; exact resetState_irq s
  case ports => rw [hout]; rfl
  case registers =>
    intro k x hx
    rw [hout] at hx
    obtain rfl : x = Session.reset s.ports.length k := resetState_session (s := s) hx
    have hzero : ∀ r ∈ [SessionReg.resp, .cksum, .txf0, .txf1, .rxf0, .rxf1, .cin0, .cin1, .sdec, .diag],
        r ∉ [SessionReg.stat, .cfg, .tmo] := by decide
    exact ⟨sessionReset_stat _ k, sessionReset_zero _ k (by decide), sessionReset_cfg _ k, sessionReset_tmo _ k,
      fun r hr => sessionReset_zero _ k (hzero r hr)⟩

end Sys2Proof.Machine
